-- ==== Sys2Proof/Word.lean ====
section
/-! DEFINITION. The byte of ring cells and lane-bus cells, and the numbers of lanes, zones and holds. -/

namespace Sys2Proof

/-- One byte of a cell (11_cell_and_record_formats.md). -/
abbrev Byte := BitVec 8

/-- A lane of this part, 0 to 15 (00_scope.md, section 7). -/
abbrev LaneNo := Fin 16

/-- A zone, 0 to 7 (00_scope.md, section 7). -/
abbrev ZoneNo := Fin 8

/-- The number of a hold table entry, 0 to 63 (R48). -/
abbrev HoldNo := Fin 64

end Sys2Proof
end

