-- ==== Sys2Proof/Syntax.lean ====
section
/-! DEFINITION. The commands: one constructor for each row of spec/opcode_table.json. -/

namespace Sys2Proof

/-- The levels of the input pins as a reset ends, as the pins carry them: `true`, or a bit that is one, is a high
level (00_scope.md, section 8). ROT, CAN and EREL are active low. -/
structure Pins where
  /-- PS0 to PS2, PS0 the lowest digit (R153). -/
  ps : BitVec 3
  /-- SS0 to SS2, SS0 the lowest digit (R153). -/
  ss : BitVec 3
  /-- ROT0 to ROT15 (R98). -/
  rot : BitVec 16
  /-- CAN0 to CAN15 (R102). -/
  can : BitVec 16
  /-- EREL (R105). -/
  erel : Bool
  deriving DecidableEq, Repr

/-- The two moments of a lane-bus transaction that reach the part: it begins, or the head's answer arrives within the
answer window (R112). An answer that does not arrive is MISS. -/
inductive Exchange where
  | begun
  | answered (bytes : List Byte)
  deriving DecidableEq, Repr

/-- How much of a LOAD_RECORDS cell is taken: all that is left of it, or the access of its next record alone, since
accesses of the HDU may come between the two records of a cell (R18, R37; log entry 13). -/
inductive LoadAccess where
  | wholeCell
  | oneRecord
  deriving DecidableEq, Repr

/-- The commands of the part, in the order of spec/opcode_table.json. A management command, an intake entry, a
verdict and a lane event are taken from the queue in State where they wait, so their rows carry no copy of them. -/
inductive Instr where
  | powerOn (pins : Pins)
  | sweepComplete
  | putRecord
  | loadOpen
  | loadRecords (access : LoadAccess)
  | loadAbort
  | voidKey
  | restoreKey
  | dropKey
  | queryKey
  | setLane
  | laneOpen
  | laneClose
  | laneReset
  | laneRelease
  | readLane
  | setZone
  | readZone
  | setClock
  | setGate
  | readGate
  | emergencyClear
  | gateClear (pins : Pins)
  | unknownCommand
  | ringCellReceived (cell : List Byte)
  | ringDownTimeout
  | outputCellEnd
  | claim
  | passed
  | abandon
  | lateUse
  | holdDeadline (index : HoldNo)
  | verdict
  | claimTimeout (lane : LaneNo)
  | drainLateUse
  | poll (moment : Exchange)
  | linkRegained (lane : LaneNo)
  | fetch (moment : Exchange)
  | delivery (moment : Exchange)
  | miss
  | linkLoss (lane : LaneNo)
  | presentation (lane : LaneNo)
  | claimResult (lane : LaneNo)
  | rotationEdge (lane : LaneNo)
  | rotation (lane : LaneNo)
  | passTimerExpired (lane : LaneNo)
  | passExpiry (lane : LaneNo)
  | cancelPress (lane : LaneNo)
  | cancel (lane : LaneNo)
  | emergencyEdge
  | emergencyInputInactive
  | emergencyEvent (lane : LaneNo)
  | latchClearing (lane : LaneNo)
  | indicationTimeout (lane : LaneNo)
  | zoneConvert (lane : LaneNo)
  | zoneRelease (lane : LaneNo)
  | zoneExit (lane : LaneNo)
  | clockSecond
  | sensorLevelInactive (lane : LaneNo)
  | buttonReleased (lane : LaneNo)
  | rstnLow
  deriving DecidableEq, Repr

end Sys2Proof
end

