-- ==== Sys2Proof/WellFormed.lean ====
section
/-! DEFINITION. Which commands are well formed. Lanes and holds are in range by their types; what is left is the
length of a ring cell and of a head's answer. -/

namespace Sys2Proof

/-- A lane-bus answer has at least one byte and at most the fifteen of a presentation answer
(11_cell_and_record_formats.md, section 11.3). -/
def Exchange.wellFormed : Exchange → Bool
  | .begun => true
  | .answered bytes => 0 < bytes.length && bytes.length ≤ 15

/-- A ring cell is 64 bytes long (11_cell_and_record_formats.md, section 11.2); every other command is well formed
by its type, but for the answers of the lane heads. -/
def Instr.wellFormed : Instr → Bool
  | .ringCellReceived cell => cell.length == 64
  | .poll m => m.wellFormed
  | .fetch m => m.wellFormed
  | .delivery m => m.wellFormed
  | _ => true

end Sys2Proof
end

