-- ==== Sys2Proof/Decode.lean ====
section
/-! DEFINITION. The command a word spells by the bits of spec/opcode_table.json. No row of that table has bits (its
61 rows have no "fixed" and empty "fields"), so no word spells a command. The bytes the part does decode, those of
ring cells and lane-bus cells, are read in Sys2Proof/Machine/Operands.lean. -/

namespace Sys2Proof

/-- The command of the opcode table that the word `w` of `nbits` bits spells: none, whatever the word, because the
table gives its rows no bits. -/
def decodeTableWord (_nbits _w : Nat) : Option Instr := none

end Sys2Proof
end

