-- ==== Sys2Proof/Machine/Bytes.lean ====
section
/-! DEFINITION. Byte order and checks of the cells (11_cell_and_record_formats.md): big-endian numbers, the CRC-16 of
a ring cell, the check byte of a lane-bus cell. -/

namespace Sys2Proof.Machine

/-- The number `n` in `k` bytes, most significant byte first (chapter 11). -/
def beBytes : Nat → Nat → List Byte
  | 0, _ => []
  | k + 1, n => BitVec.ofNat 8 (n / 256 ^ k) :: beBytes k n

/-- The number some bytes spell, most significant byte first (chapter 11). -/
def beNat (bytes : List Byte) : Nat := bytes.foldl (fun acc b => acc * 256 + b.toNat) 0

/-- The `len` bytes from offset `off`. -/
def slice (bytes : List Byte) (off len : Nat) : List Byte := (bytes.drop off).take len

/-- The byte at offset `off`; past the end there is nothing but spare zero. -/
def byteAt (bytes : List Byte) (off : Nat) : Byte := bytes.getD off 0

/-- The number in the `len` bytes from offset `off`. -/
def natAt (bytes : List Byte) (off len : Nat) : Nat := beNat (slice bytes off len)

/-- One bit of the CRC-16: generator 1021H, high bit first (section 11.2). -/
def crcBit (crc : BitVec 16) : BitVec 16 :=
  if crc.getLsbD 15 then (crc <<< 1) ^^^ 0x1021#16 else crc <<< 1

/-- One byte of the CRC-16. -/
def crcByte (crc : BitVec 16) (b : Byte) : BitVec 16 :=
  let x := crc ^^^ (b.zeroExtend 16 <<< 8)
  crcBit (crcBit (crcBit (crcBit (crcBit (crcBit (crcBit (crcBit x)))))))

/-- The CRC-16 over some bytes: it starts from FFFFH and is not inverted at the end (section 11.2). -/
def crc16 (bytes : List Byte) : BitVec 16 := bytes.foldl crcByte 0xFFFF#16

/-- The CRC-16 as the two bytes it is stored in, high byte first (section 11.2). -/
def crcBytes (bytes : List Byte) : List Byte := beBytes 2 (crc16 bytes).toNat

/-- Whether the bytes of a lane-bus cell, its check byte among them, sum to zero modulo 256 (section 11.3). -/
def busCheck (bytes : List Byte) : Bool := (bytes.foldl (fun acc b => acc + b) (0 : Byte)) == 0

/-- The check byte that ends a lane-bus cell (section 11.3). -/
def busCheckByte (bytes : List Byte) : Byte := -(bytes.foldl (fun acc b => acc + b) (0 : Byte))

end Sys2Proof.Machine
end

