-- ==== Sys2Proof/Config.lean ====
section
/-! DEFINITION. What the part fixes: sizes and limits the rules name, and the free values. -/

namespace Sys2Proof.Config

/-- The event clock's last second (00_scope.md, section 7; R167). -/
def maxSecond : Nat := 1048575

/-- Where the 16-bit counters saturate (R40, R96, R151). -/
def maxCounter : Nat := 65535

/-- Places of the intake queue, and how many entries may stand there for a claim still to join (R40). -/
def intakePlaces : Nat := 48
def intakeClaimPlaces : Nat := 32

/-- Places of the command queue (R164). -/
def commandPlaces : Nat := 4

/-- Places of the transit queue (R147). -/
def transitPlaces : Nat := 8

/-- Places of the local transmit queue, and those general cells may use (R148). -/
def localPlaces : Nat := 32
def generalPlaces : Nat := 24

/-- Records of the provisional log (R136). -/
def logPlaces : Nat := 256

/-- Buckets of the admission table and slots of a bucket (R14). -/
def buckets : Nat := 8192
def slots : Nat := 8

/-- The venue station's ring address (00_scope.md, section 7). -/
def station : Nat := 15

/-- The ring goes DOWN after this many milliseconds without a good cell (R150). -/
def ringSilence : Nat := 50

/-- A REFUSE or RETRY indication lasts this many milliseconds (R103). -/
def indicationSpan : Nat := 2000

/-- The free values of the model: whatever the spec leaves open is this function of a counter in State, and nothing
in Lean can say which number it is (DESIGN CHOICE, log entry 9). -/
opaque freeValue : Nat → Nat

/-- Whether a tone's square wave begins with its high half: the spec gives the wave's frequency and not its phase, and
nothing in Lean can say which it is (DESIGN CHOICE, log entry 33). -/
opaque toneStartsHigh : Bool

end Sys2Proof.Config
end

