-- ==== Sys2Proof/Machine/State.lean ====
section
/-! DEFINITION. Everything the spec gives the part to hold, block by block (00_scope.md, section 3), as plain data,
and its value right after a power-on reset. -/

namespace Sys2Proof.Machine

/-- No command stops the part with a fault: the spec names no condition in which it stops. -/
inductive Fault where
  deriving DecidableEq, Repr

/-- Why a command has no meaning. -/
inductive Refusal where
  /-- Raised only by an arm of `exec` whose command has no meaning yet; safe, since nothing is claimed of it. -/
  | notModelled (mnemonic : String)
  deriving DecidableEq, Repr

/-! ### Credentials, claims and their names -/

/-- A key: medium code, length and value (R4, R5, R6). The medium is the code byte itself, since ring and management
cells carry codes that name no medium (R8, R176). -/
structure Key where
  medium : Byte
  length : Nat
  value : Nat
  deriving DecidableEq, Repr

/-- The kind of a claim, notice, use or hold, and the direction of a lane (R39, R68). -/
inductive Kind where
  | entry
  | exit
  deriving DecidableEq, Repr

/-- A tag: requester part, lane and sequence number (R39). -/
structure Tag where
  part : Nat
  lane : Nat
  seq : Nat
  deriving DecidableEq, Repr

/-- The fifteen verdicts of the home (R42). -/
inductive Verdict where
  | unknown
  | void
  | wrongLane
  | wrongZone
  | tooEarly
  | tooLate
  | inProgress
  | alreadyIn
  | noReentry
  | cooldown
  | homeBusy
  /-- ADMIT, given to a FRESH record (R44). -/
  | admitFresh
  | admitReentry
  | exitUnmatched
  | exitOk
  deriving DecidableEq, Repr

/-- What a disposition tells the spectator (R83): a verdict's name, or one of the lane's own messages. -/
inductive Message where
  | ofVerdict (v : Verdict)
  | seeStaff
  | provisionalAdmit
  | provisionalLimit
  | logFull
  | exitUnchecked
  | laneClosed
  | emergency
  | tryAgain
  | rescan
  | zoneFull
  | cancelled
  deriving DecidableEq, Repr

/-- The statuses of replies and of loaded records (section 10.7). -/
inductive Status where
  | ok
  | okClamped
  | badArg
  | busy
  | wrongHome
  | bucketFull
  | notFound
  | inProgress
  | noStream
  | streamOpen
  | noClock
  | laneState
  | zoneFull
  | active
  | badStrap
  deriving DecidableEq, Repr

/-! ### Admission Table -/

/-- Never used, inside, or out after having been in (section 2.1). -/
inductive UseState where
  | fresh
  | inside
  | outside
  deriving DecidableEq, Repr

/-- The three use fields that a hold's snapshot keeps (R48). -/
structure UseFields where
  use : UseState
  reentries : Nat
  lastExit : Nat
  deriving DecidableEq, Repr

/-- The six static fields beside the key (section 2.1). -/
structure StaticFields where
  cls : Nat
  zones : BitVec 8
  openMinute : Nat
  closeMinute : Nat
  allowance : Nat
  cooldown : Nat
  deriving DecidableEq, Repr

/-- What PUT_RECORD and LOAD_RECORDS carry for one record (section 2.4, the record image of chapter 11). -/
structure Image where
  key : Key
  static : StaticFields
  deriving DecidableEq, Repr

/-- An admission record (R14). -/
structure Record where
  key : Key
  static : StaticFields
  uses : UseFields
  revoked : Bool
  hold : Option HoldNo
  deriving DecidableEq, Repr

/-- The occupied slots, in strictly rising order of position. Position `p` is bucket `p / 8`, slot `p % 8` (R14). -/
abbrev Table := List (Nat × Record)

/-- SWEEPING or READY (R19). -/
inductive SweepPhase where
  | sweeping
  | ready
  deriving DecidableEq, Repr

/-- An open load stream (R31). -/
structure Stream where
  remaining : Nat
  taken : Nat
  rejected : Nat
  excess : Nat
  firstRejection : Option (Status × Key)
  deriving DecidableEq, Repr

structure Adt where
  phase : SweepPhase
  table : Table
  fill : Nat
  stream : Option Stream
  deriving DecidableEq, Repr

/-! ### Home Decision Unit -/

/-- An entry of the intake queue (R39). The same four forms are the payloads of the ring cells that carry them. -/
inductive Intake where
  | claim (tag : Tag) (key : Key) (kind : Kind) (time : Nat) (zone : Nat) (classes : BitVec 16)
  | passed (tag : Tag) (key : Key) (kind : Kind) (time : Nat)
  | abandon (tag : Tag) (key : Key)
  | lateUse (part : Nat) (lane : Nat) (key : Key) (kind : Kind) (time : Nat)
  deriving DecidableEq, Repr

/-- A live hold (R48). Its index is its place in the hold table; its deadline is a moment of the timebase (R49). -/
structure Hold where
  tag : Tag
  position : Nat
  kind : Kind
  snapshot : UseFields
  deadline : Nat
  deriving DecidableEq, Repr

structure Hdu where
  intake : List Intake
  holds : Vector (Option Hold) 64
  noticeDrops : Nat
  strayAbandons : Nat
  deriving DecidableEq, Repr

/-! ### Claim Tracker -/

/-- LOCAL when the home is this part, REMOTE otherwise (R124). -/
inductive Mode where
  | atHome
  | remote
  deriving DecidableEq, Repr

/-- The tracker entry of a lane's outstanding claim (R124). -/
structure TrackerEntry where
  seq : Nat
  key : Key
  kind : Kind
  home : Nat
  time : Nat
  mode : Mode
  deadline : Option Nat
  deriving DecidableEq, Repr

/-- PENDING until the passage rotates, then DONE (R136, R137). -/
inductive LogState where
  | pending
  | done
  deriving DecidableEq, Repr

/-- A record of the provisional log (R136). -/
structure LogRecord where
  key : Key
  kind : Kind
  lane : Nat
  time : Nat
  state : LogState
  deriving DecidableEq, Repr

/-- A verdict on its way to the Claim Tracker: from this part's own HDU (`source` none) or in a VERDICT cell from a
ring address; `name` is none for a code that names no verdict (R42, R127, R177). -/
structure HandedVerdict where
  source : Option Nat
  tag : Tag
  key : Key
  name : Option Verdict
  argument : Nat
  deriving DecidableEq, Repr

structure Clt where
  tracker : Vector (Option TrackerEntry) 16
  log : List LogRecord
  inbox : List HandedVerdict
  lateVerdicts : Nat
  unloggedExits : Nat
  logDrops : Nat
  deriving DecidableEq, Repr

/-! ### Lane Controllers -/

inductive Priority where
  | normal
  | high
  deriving DecidableEq, Repr

/-- What an unreachable home means for a lane (R133 to R135). -/
inductive Policy where
  | refuse
  | provisional
  deriving DecidableEq, Repr

inductive LaneState where
  | closed
  | idle
  | validating
  | awaitPass
  | fault
  | released
  deriving DecidableEq, Repr

/-- The configuration fields of a lane record; the three windows are in seconds (R68). -/
structure LaneConfig where
  fitted : Bool
  direction : Kind
  zone : ZoneNo
  classes : BitVec 16
  priority : Priority
  passWindow : Nat
  echoWindow : Nat
  staleLimit : Nat
  policy : Policy
  deriving DecidableEq, Repr

/-- Where a passage came from (R84). -/
inductive Origin where
  | granted
  | unchecked
  | provisional
  | manual
  deriving DecidableEq, Repr

/-- A passage: its origin, the tag of a GRANTED one, the log record of a PROVISIONAL one (R84). -/
structure Passage where
  origin : Origin
  tag : Option Tag
  logged : Option LogRecord
  deriving DecidableEq, Repr

/-- A key with the event second it was presented at: the current presentation and the echo record (R68, R77). -/
structure Presented where
  key : Key
  time : Nat
  deriving DecidableEq, Repr

/-- What the Lane Bus Port carries to a head (R83, R120). -/
structure Disposition where
  message : Message
  argument : Nat
  key : Option Key
  deriving DecidableEq, Repr

/-- The lane's record of the disposition it sent last, with its second unless the clock was UNSET (R83). -/
structure LastDisposition where
  disposition : Disposition
  time : Option Nat
  deriving DecidableEq, Repr

/-- The six counters of a lane (R96). -/
structure LaneCounters where
  admitted : Nat
  refused : Nat
  forced : Nat
  manual : Nat
  provisional : Nat
  free : Nat
  deriving DecidableEq, Repr

/-- A presentation as fetched: the medium code, the length, the ten payload bytes and the age in tenths of a second
(section 1.1, section 4.3). -/
structure Presentation where
  medium : Byte
  length : Nat
  payload : List Byte
  age : Nat
  deriving DecidableEq, Repr

/-- What the Claim Tracker hands a lane in answer to its claim (R80). -/
inductive Result where
  | verdict (v : Verdict) (argument : Nat)
  | unreachable (logged : Option LogRecord)
  | provisionalAdmit (logged : LogRecord)
  | provisionalLimit
  | logFull
  deriving DecidableEq, Repr

/-- What can wait at a lane (R72). -/
inductive LaneEvent where
  | presentation (p : Presentation)
  | result (r : Result)
  | rotation (latched : Bool)
  | cancel
  | passExpiry
  | linkLoss
  | linkRegained
  | emergency
  | latchClearing
  deriving DecidableEq, Repr

/-- A lane record (R68), with what has been handed to the lane and not yet taken. -/
structure Lane where
  config : LaneConfig
  openIntent : Bool
  state : LaneState
  seq : Nat
  current : Option Presented
  passage : Option Passage
  echo : Option Presented
  last : Option LastDisposition
  counters : LaneCounters
  events : List LaneEvent
  deriving DecidableEq, Repr

/-! ### Lane Bus Port -/

/-- What the port holds for one lane (R111). -/
structure Head where
  linked : Bool
  missed : Nat
  offered : Nat
  room : Nat
  inHand : Bool
  waiting : Option Disposition
  deriving DecidableEq, Repr

/-- The transaction on the bus (R112). `discarded` says that the disposition of a delivery is no longer wanted back,
because a LANE_RESET or the lane's unfitting came since it began (R121). -/
inductive Transaction where
  | poll (lane : LaneNo)
  | fetch (lane : LaneNo)
  | delivery (lane : LaneNo) (disposition : Disposition) (discarded : Bool)
  deriving DecidableEq, Repr

structure Lbp where
  heads : Vector Head 16
  highPointer : LaneNo
  normalPointer : LaneNo
  round : List LaneNo
  afterPoll : Bool
  underWay : Option Transaction
  deriving DecidableEq, Repr

/-! ### Zone Counter Unit -/

/-- A zone record (R156). -/
structure Zone where
  quota : Nat
  count : Nat
  reserved : Nat
  underflow : Nat
  deriving DecidableEq, Repr

inductive ZoneAsk where
  | convert
  | release
  | exit
  deriving DecidableEq, Repr

/-- A request a lane has handed to the ZCU and the ZCU has not yet taken (R157, R172). -/
structure ZoneRequest where
  lane : LaneNo
  zone : ZoneNo
  ask : ZoneAsk
  deriving DecidableEq, Repr

structure Zcu where
  zones : Vector Zone 8
  requests : List ZoneRequest
  deriving DecidableEq, Repr

/-! ### Turnstile Line Unit -/

inductive Arm where
  | locked
  | free
  deriving DecidableEq, Repr

/-- The six indications (R71, R103). -/
inductive Indication where
  | grant
  | provisional
  | refuse
  | retry
  | released
  | dark
  deriving DecidableEq, Repr

/-- The rotation latch (R99). -/
inductive RotationLatch where
  | disarmed
  | armed
  | captured
  deriving DecidableEq, Repr

/-- What the TLU holds for one lane: `shownSince` is the moment the indication began, `passTimer` the moment a running
pass timer runs out, `cancelSet` the cancel latch (R97 to R104). -/
structure Lines where
  arm : Arm
  indication : Indication
  shownSince : Nat
  latch : RotationLatch
  sensorActive : Bool
  passTimer : Option Nat
  cancelSet : Bool
  buttonPressed : Bool
  deriving DecidableEq, Repr

/-- The lines of the lanes, and the emergency latch with the moment it was set (R105, R109). -/
structure Tlu where
  lines : Vector Lines 16
  latched : Bool
  inputActive : Bool
  setAt : Nat
  deriving DecidableEq, Repr

/-! ### Management Unit -/

/-- A management command with its arguments (section 10.1, the command arguments of chapter 11). Lane and zone
numbers, codes and settings are as carried. -/
inductive Command where
  | putRecord (image : Image)
  | loadOpen (count : Nat)
  | loadRecords (count : Nat) (first second : Image)
  | loadAbort
  | voidKey (key : Key)
  | restoreKey (key : Key)
  | dropKey (key : Key)
  | queryKey (key : Key)
  | setLane (lane : Nat) (fitted direction : Byte) (zone : Nat) (classes : BitVec 16) (priority : Byte)
      (passWindow echoWindow staleLimit : Nat) (policy : Byte)
  | laneOpen (lane : Nat)
  | laneClose (lane : Nat)
  | laneReset (lane : Nat)
  | laneRelease (lane : Nat)
  | readLane (lane : Nat) (clear : Bool)
  | setZone (zone quota : Nat)
  | readZone (zone : Nat) (clear : Bool)
  | setClock (second : Nat)
  | setGate (claimTimeout holdLimit : Nat) (mask : Byte)
  | readGate (clear : Bool)
  | emergencyClear
  | gateClear
  | unknown (code : Byte)
  deriving DecidableEq, Repr

/-- A management cell as handed to the MGU: the address it came from, its request number, its command (R164). -/
structure MgmtCell where
  source : Nat
  request : Byte
  command : Command
  deriving DecidableEq, Repr

/-- The report mask's flags (R169). -/
structure Mask where
  passage : Bool
  forced : Bool
  provisional : Bool
  deriving DecidableEq, Repr

/-- The gate settings: claim timeout in milliseconds, hold limit in seconds (R169). -/
structure Settings where
  claimTimeout : Nat
  holdLimit : Nat
  mask : Mask
  deriving DecidableEq, Repr

structure Mgu where
  clock : Option Nat
  nextSecond : Nat
  settings : Settings
  queue : List MgmtCell
  firstLoaded : Option Status
  commandDrops : Nat
  deriving DecidableEq, Repr

/-! ### Gate Ring Port -/

/-- Who a reported use or duplicate came from: a tag, or a requester part and lane (R62, R63). -/
inductive UseOrigin where
  | tag (t : Tag)
  | lane (part lane : Nat)
  deriving DecidableEq, Repr

inductive LapseCause where
  | deadline
  | tagReuse
  deriving DecidableEq, Repr

inductive Occasion where
  | commit
  | appliedUse
  deriving DecidableEq, Repr

inductive EmergencyCause where
  | edge
  | reset
  deriving DecidableEq, Repr

/-- The contents of the reports (R34, R61 to R63, R106, R109, R174, R175). -/
inductive Report where
  | passage (lane : LaneNo) (direction : Kind) (zone : ZoneNo) (origin : Origin) (key : Option Key)
      (tag : Option Tag) (time : Nat)
  | forced (lane : LaneNo) (state : LaneState) (time : Option Nat)
  | provisional (lane : LaneNo) (direction : Kind) (zone : ZoneNo) (key : Key) (time : Nat)
  | loadDone (taken rejected excess : Nat) (first : Option (Status × Key)) (aborted : Bool)
  | holdLapsed (tag : Tag) (key : Key) (kind : Kind) (cause : LapseCause) (use : UseState)
  | duplicate (key : Key) (occasion : Occasion) (time : Nat) (origin : UseOrigin)
  | unknownUse (key : Key) (kind : Kind) (time : Nat) (origin : UseOrigin)
  | fault (lane : LaneNo) (left : LaneState)
  | recovered (lane : LaneNo) (entered : LaneState)
  | emergency (cause : EmergencyCause)
  | emergencyCleared (seconds : Nat)
  | ringUp (seconds downs : Nat)
  | ringDown (downs : Nat)
  deriving DecidableEq, Repr

/-- What PUT_RECORD reports (R23). -/
inductive PutOutcome where
  | refused
  | new
  | replaced
  deriving DecidableEq, Repr

/-- What READ_LANE returns (R96). -/
structure LaneReadout where
  config : LaneConfig
  state : LaneState
  openIntent : Bool
  seq : Nat
  origin : Option Origin
  last : Option LastDisposition
  counters : LaneCounters
  deriving DecidableEq, Repr

inductive TableStatus where
  | sweeping
  | ready
  | loading
  deriving DecidableEq, Repr

/-- The seven counters of the ring port (R151). -/
structure RingCounters where
  checkErrors : Nat
  strayCells : Nat
  returnedDrops : Nat
  hopExpiries : Nat
  transitOverruns : Nat
  transmitDrops : Nat
  ringDowns : Nat
  deriving DecidableEq, Repr

/-- What READ_GATE returns (R170). -/
structure GateReadout where
  position : Nat
  size : Nat
  strapFault : Bool
  ringUp : Bool
  ringCounters : RingCounters
  transitFill : Nat
  localFill : Nat
  generalFill : Nat
  tableStatus : TableStatus
  remaining : Nat
  tableFill : Nat
  intakeFill : Nat
  holdCount : Nat
  noticeDrops : Nat
  strayAbandons : Nat
  trackerEntries : Nat
  logFill : Nat
  lateVerdicts : Nat
  unloggedExits : Nat
  logDrops : Nat
  emergencyLatched : Bool
  emergencyInput : Bool
  clock : Option Nat
  settings : Settings
  commandFill : Nat
  commandDrops : Nat
  deriving DecidableEq, Repr

/-- The data of a reply, by the rule of its command (R166, the reply data of chapter 11). -/
inductive ReplyData where
  | nothing
  | put (outcome : PutOutcome)
  | opened (remaining : Nat)
  | loaded (first : Status) (second : Option Status) (remaining : Nat)
  | record (r : Record)
  | lane (r : LaneReadout)
  | quota (q : Nat)
  | zone (z : Zone)
  | clock (second : Nat)
  | settings (g : Settings)
  | gate (g : GateReadout)
  | straps (position size : Nat) (fault : Bool)
  deriving DecidableEq, Repr

/-- The cells this part's own blocks hand to the ring port, by type and contents (R143, the payloads of chapter 11).
`timed` is a report with the second it carries (R173). -/
inductive CellBody where
  | intake (e : Intake)
  | verdict (tag : Tag) (key : Key) (name : Verdict) (argument : Nat)
  | reply (code request : Byte) (status : Status) (data : ReplyData)
  | timed (report : Report) (second : Option Nat)
  deriving DecidableEq, Repr

/-- A cell of the local transmit queue: the address it is for and what it carries (R148). -/
structure LocalCell where
  destination : Nat
  body : CellBody
  deriving DecidableEq, Repr

/-- The output arbiter's preference (R149). -/
inductive Preference where
  | transit
  | ownCells
  deriving DecidableEq, Repr

/-- The ring port. A cell of the transit queue is its 62 bytes before the check, its hop count already lowered
(R147); `sending` is the 64 bytes of the cell on the output, empty while the output is silent (R149). -/
structure Grp where
  position : Nat
  size : Nat
  transit : List (List Byte)
  localQueue : List LocalCell
  prefer : Preference
  sending : List Byte
  ringUp : Bool
  lastGood : Nat
  downSince : Nat
  counters : RingCounters
  deriving DecidableEq, Repr

/-! ### The part -/

/-- The state of one WG1608, and the queue of commands that wait for it. `timebase` counts milliseconds (R49, R101,
R126, R150); `freeCount` picks the next free value and is the model's own (log entry 9). -/
structure State where
  pending : List Instr
  inReset : Bool
  timebase : Nat
  freeCount : Nat
  adt : Adt
  hdu : Hdu
  clt : Clt
  lanes : Vector Lane 16
  lbp : Lbp
  zcu : Zcu
  tlu : Tlu
  grp : Grp
  mgu : Mgu
  deriving DecidableEq, Repr

/-! ### Reset values -/

/-- The configuration of a lane after a reset (R68). -/
def LaneConfig.reset : LaneConfig where
  fitted := true
  direction := .entry
  zone := 0
  classes := 0xFFFF
  priority := .normal
  passWindow := 8
  echoWindow := 2
  staleLimit := 3
  policy := .refuse

def LaneCounters.zero : LaneCounters := ⟨0, 0, 0, 0, 0, 0⟩

/-- A lane record after a reset (R68). -/
def Lane.reset : Lane where
  config := .reset
  openIntent := false
  state := .closed
  seq := 0
  current := none
  passage := none
  echo := none
  last := none
  counters := .zero
  events := []

/-- The port's items for a lane after a reset (R111), and those of an unfitted lane (R123). -/
def Head.reset : Head := ⟨true, 0, 0, 0, false, none⟩

def Zone.zero : Zone := ⟨0, 0, 0, 0⟩

def RingCounters.zero : RingCounters := ⟨0, 0, 0, 0, 0, 0, 0⟩

/-- The gate settings after a reset (R169). -/
def Settings.reset : Settings := ⟨600, 40, ⟨true, true, true⟩⟩

/-- The lines of a lane after a reset, with the levels taken from the pins (R98, R102 and section 5.7). -/
def Lines.reset (now : Nat) (sensorActive buttonPressed : Bool) : Lines where
  arm := .locked
  indication := .dark
  shownSince := now
  latch := .disarmed
  sensorActive := sensorActive
  passTimer := none
  cancelSet := false
  buttonPressed := buttonPressed

def Hdu.reset : Hdu := ⟨[], Vector.replicate 64 none, 0, 0⟩

def Clt.reset : Clt := ⟨Vector.replicate 16 none, [], [], 0, 0, 0⟩

def Lbp.reset : Lbp := ⟨Vector.replicate 16 .reset, 15, 15, [], false, none⟩

def Zcu.reset : Zcu := ⟨Vector.replicate 8 .zero, []⟩

def Mgu.reset : Mgu := ⟨none, 0, .reset, [], none, 0⟩

/-- The ring port after a reset that ends at `now` with position `p` and size `n` latched (R152). -/
def Grp.reset (p n now : Nat) : Grp where
  position := p
  size := n
  transit := []
  localQueue := []
  prefer := .transit
  sending := []
  ringUp := false
  lastGood := now
  downSince := now
  counters := .zero

/-- The part right after its first power-on reset, with straps all low and every active-low input high: the pins'
levels and the empty table are DESIGN CHOICES (log entries 6 and 7), the rest is as the reset rules give it. -/
def State.reset : State where
  pending := []
  inReset := false
  timebase := 0
  freeCount := 0
  adt := ⟨.sweeping, [], 0, none⟩
  hdu := .reset
  clt := .reset
  lanes := Vector.replicate 16 .reset
  lbp := .reset
  zcu := .reset
  tlu := ⟨Vector.replicate 16 (.reset 0 false false), false, false, 0⟩
  grp := .reset 0 1 0
  mgu := .reset

end Sys2Proof.Machine
end

