-- ==== Sys2Proof/Machine/Codes.lean ====
section
/-! DEFINITION. The numeric codes of names (11_cell_and_record_formats.md, sections 11.1, 11.2 and 11.4). -/

namespace Sys2Proof.Machine

/-- Medium codes of the key encoding (section 11.1). -/
def barcodeMedium : Byte := 0x01
def cardMedium : Byte := 0x02

/-- The kind byte (section 11.1). -/
def Kind.code : Kind → Byte
  | .entry => 0x00
  | .exit => 0x01

/-- A kind byte as received: its lowest bit, the others spare (section 11.1, R176). -/
def Kind.ofByte (b : Byte) : Kind := if b.getLsbD 0 then .exit else .entry

/-- The use state byte (section 11.1). -/
def UseState.code : UseState → Byte
  | .fresh => 0x00
  | .inside => 0x01
  | .outside => 0x02

/-- Verdict codes (section 11.4). -/
def Verdict.code : Verdict → Byte
  | .unknown => 0x01
  | .void => 0x02
  | .wrongLane => 0x03
  | .wrongZone => 0x04
  | .tooEarly => 0x05
  | .tooLate => 0x06
  | .inProgress => 0x07
  | .alreadyIn => 0x08
  | .noReentry => 0x09
  | .cooldown => 0x0A
  | .homeBusy => 0x0B
  | .admitFresh => 0x0C
  | .admitReentry => 0x0D
  | .exitUnmatched => 0x0E
  | .exitOk => 0x0F

/-- The verdict a code names; none outside 01H to 0FH (R177). -/
def Verdict.ofCode (b : Byte) : Option Verdict :=
  [Verdict.unknown, .void, .wrongLane, .wrongZone, .tooEarly, .tooLate, .inProgress, .alreadyIn, .noReentry,
    .cooldown, .homeBusy, .admitFresh, .admitReentry, .exitUnmatched, .exitOk].find? (fun v => v.code == b)

/-- Message codes: a verdict keeps its code (section 11.4). -/
def Message.code : Message → Byte
  | .ofVerdict v => v.code
  | .seeStaff => 0x10
  | .provisionalAdmit => 0x11
  | .provisionalLimit => 0x12
  | .logFull => 0x13
  | .exitUnchecked => 0x14
  | .laneClosed => 0x15
  | .emergency => 0x16
  | .tryAgain => 0x17
  | .rescan => 0x18
  | .zoneFull => 0x19
  | .cancelled => 0x1A

/-- Status codes (section 11.4). -/
def Status.code : Status → Byte
  | .ok => 0x00
  | .okClamped => 0x01
  | .badArg => 0x02
  | .busy => 0x03
  | .wrongHome => 0x04
  | .bucketFull => 0x05
  | .notFound => 0x06
  | .inProgress => 0x07
  | .noStream => 0x08
  | .streamOpen => 0x09
  | .noClock => 0x0A
  | .laneState => 0x0B
  | .zoneFull => 0x0C
  | .active => 0x0D
  | .badStrap => 0x0E

/-- Command codes (section 11.4). An unknown command is echoed with the code it carried (R166). -/
def Command.code : Command → Byte
  | .putRecord _ => 0x01
  | .loadOpen _ => 0x02
  | .loadRecords _ _ _ => 0x03
  | .loadAbort => 0x04
  | .voidKey _ => 0x05
  | .restoreKey _ => 0x06
  | .dropKey _ => 0x07
  | .queryKey _ => 0x08
  | .setLane .. => 0x09
  | .laneOpen _ => 0x0A
  | .laneClose _ => 0x0B
  | .laneReset _ => 0x0C
  | .laneRelease _ => 0x0D
  | .readLane _ _ => 0x0E
  | .setZone _ _ => 0x0F
  | .readZone _ _ => 0x10
  | .setClock _ => 0x11
  | .setGate _ _ _ => 0x12
  | .readGate _ => 0x13
  | .emergencyClear => 0x14
  | .gateClear => 0x15
  | .unknown code => code

/-- Report kinds (section 11.4). -/
def Report.code : Report → Byte
  | .passage .. => 0x01
  | .forced .. => 0x02
  | .provisional .. => 0x03
  | .loadDone .. => 0x04
  | .holdLapsed .. => 0x05
  | .duplicate .. => 0x06
  | .unknownUse .. => 0x07
  | .fault .. => 0x08
  | .recovered .. => 0x09
  | .emergency .. => 0x0A
  | .emergencyCleared .. => 0x0B
  | .ringUp .. => 0x0C
  | .ringDown .. => 0x0D

/-- Cell types (section 11.2). -/
def idleType : Byte := 0x00
def claimType : Byte := 0x01
def verdictType : Byte := 0x02
def passedType : Byte := 0x03
def abandonType : Byte := 0x04
def lateUseType : Byte := 0x05
def mgmtType : Byte := 0x06
def replyType : Byte := 0x07
def reportType : Byte := 0x08

/-- The type a body travels under (section 11.2). -/
def CellBody.type : CellBody → Byte
  | .intake (.claim ..) => claimType
  | .intake (.passed ..) => passedType
  | .intake (.abandon ..) => abandonType
  | .intake (.lateUse ..) => lateUseType
  | .verdict .. => verdictType
  | .reply .. => replyType
  | .timed .. => reportType

/-- Lane state codes (chapter 11, report contents). -/
def LaneState.code : LaneState → Byte
  | .closed => 0x00
  | .idle => 0x01
  | .validating => 0x02
  | .awaitPass => 0x03
  | .fault => 0x04
  | .released => 0x05

/-- Passage origin codes (chapter 11, report contents). -/
def Origin.code : Origin → Byte
  | .granted => 0x00
  | .unchecked => 0x01
  | .provisional => 0x02
  | .manual => 0x03

def LapseCause.code : LapseCause → Byte
  | .deadline => 0x00
  | .tagReuse => 0x01

def Occasion.code : Occasion → Byte
  | .commit => 0x00
  | .appliedUse => 0x01

def EmergencyCause.code : EmergencyCause → Byte
  | .edge => 0x00
  | .reset => 0x01

def Priority.code : Priority → Byte
  | .normal => 0x00
  | .high => 0x01

def Policy.code : Policy → Byte
  | .refuse => 0x00
  | .provisional => 0x01

def TableStatus.code : TableStatus → Byte
  | .sweeping => 0x00
  | .ready => 0x01
  | .loading => 0x02

/-- The codes SET_LANE may carry for direction, priority and policy; none for a code that names no value (R69). -/
def Kind.ofCode (b : Byte) : Option Kind := if b == 0x00 then some .entry else if b == 0x01 then some .exit else none
def Priority.ofCode (b : Byte) : Option Priority :=
  if b == 0x00 then some .normal else if b == 0x01 then some .high else none
def Policy.ofCode (b : Byte) : Option Policy :=
  if b == 0x00 then some .refuse else if b == 0x01 then some .provisional else none

/-- PUT_RECORD's reply byte: 01H NEW, 02H REPLACED, 00H refused (chapter 11). -/
def PutOutcome.code : PutOutcome → Byte
  | .refused => 0x00
  | .new => 0x01
  | .replaced => 0x02

end Sys2Proof.Machine
end

