-- ==== Sys2Proof/Machine/Flags.lean ====
section
/-! DEFINITION. Saturating counters, and the flag bits and bytes of cells (00_scope.md section 7; chapter 11). -/

namespace Sys2Proof.Machine

/-- A 16-bit counter rises by one and stays at 65,535 (00_scope.md, section 7; R40, R57, R96, R141, R151, R164). -/
def bump (n : Nat) : Nat := if n < Config.maxCounter then n + 1 else n

/-- A yes-or-no value in a reply or report: 00H for no, 01H for yes (chapter 11). -/
def yesNo (b : Bool) : Byte := if b then 1 else 0

/-- The report mask in its byte: 01H PASSAGE, 02H FORCED, 04H PROVISIONAL (chapter 11). -/
def Mask.toByte (m : Mask) : Byte :=
  (if m.passage then 1 else 0) ||| (if m.forced then 2 else 0) ||| (if m.provisional then 4 else 0)

/-- The flags of a mask byte; its other bits are spare (R169, R176). -/
def Mask.ofByte (b : Byte) : Mask := ⟨b.getLsbD 0, b.getLsbD 1, b.getLsbD 2⟩

/-- READ_GATE's condition byte: 01H STRAP_FAULT, 02H ring UP, 04H emergency latch SET, 08H emergency input ACTIVE
(chapter 11). -/
def conditionByte (strapFault ringUp latched inputActive : Bool) : Byte :=
  (if strapFault then 1 else 0) ||| (if ringUp then 2 else 0) ||| (if latched then 4 else 0) |||
    (if inputActive then 8 else 0)

/-- Whether zone `z` is in a zone set: bit n for zone n (chapter 11). -/
def inZoneSet (zones : BitVec 8) (z : Nat) : Bool := zones.getLsbD z

/-- Whether class `c` is in a class set: bit n for class n (chapter 11). -/
def inClassSet (classes : BitVec 16) (c : Nat) : Bool := classes.getLsbD c

end Sys2Proof.Machine
end

