-- ==== Sys2Proof/Machine/Formats.lean ====
section
/-! DEFINITION. The cells this part writes, byte by byte (11_cell_and_record_formats.md): the fields, the payloads, the
ring cell with its check, and the lane-bus cells. Spare bytes are zero (R176). -/

namespace Sys2Proof.Machine

/-- A key in its encoding: medium, length, value (section 11.1). -/
def Key.bytes (k : Key) : List Byte := k.medium :: (beBytes 1 k.length ++ beBytes 8 k.value)

/-- A tag in its encoding (section 11.1). -/
def Tag.bytes (t : Tag) : List Byte := beBytes 1 t.part ++ beBytes 1 t.lane ++ beBytes 1 t.seq

/-- A time in its encoding (section 11.1). -/
def timeBytes (t : Nat) : List Byte := beBytes 4 t

/-- A time that may be absent: FFFFFFFFH is no time (section 11.1). -/
def optTimeBytes : Option Nat → List Byte
  | some t => timeBytes t
  | none => [0xFF, 0xFF, 0xFF, 0xFF]

/-- A class set in its encoding (section 11.1). -/
def classBytes (c : BitVec 16) : List Byte := beBytes 2 c.toNat

/-- A key that may be absent, behind a presence byte (chapter 11, report contents). -/
def optKeyBytes : Option Key → List Byte
  | some k => 1 :: k.bytes
  | none => 0 :: List.replicate 10 0

/-- A tag that may be absent, behind a presence byte (chapter 11, report contents). -/
def optTagBytes : Option Tag → List Byte
  | some t => 1 :: t.bytes
  | none => 0 :: List.replicate 3 0

/-- An origin: a form byte and a tag whose sequence is zero in the second form (chapter 11, report contents). -/
def UseOrigin.bytes : UseOrigin → List Byte
  | .tag t => 0 :: t.bytes
  | .lane p l => 1 :: Tag.bytes ⟨p, l, 0⟩

/-- The record image (chapter 11). -/
def Image.bytes (im : Image) : List Byte :=
  im.key.bytes ++ beBytes 1 (im.static.cls * 16 + im.static.allowance) ++ [im.static.zones] ++
    beBytes 1 im.static.cooldown ++ beBytes 2 im.static.openMinute ++ beBytes 2 im.static.closeMinute

/-- A first rejection behind its presence byte (chapter 11, LOAD_DONE). -/
def rejectionBytes : Option (Status × Key) → List Byte
  | some (st, k) => 1 :: st.code :: k.bytes
  | none => 0 :: List.replicate 11 0

/-- The payload of an intake entry's cell (section 11.2). -/
def Intake.bytes : Intake → List Byte
  | .claim tag key kind time zone classes =>
    tag.bytes ++ key.bytes ++ [kind.code] ++ timeBytes time ++ beBytes 1 zone ++ classBytes classes
  | .passed tag key kind time => tag.bytes ++ key.bytes ++ [kind.code] ++ timeBytes time
  | .abandon tag key => tag.bytes ++ key.bytes
  | .lateUse part lane key kind time =>
    beBytes 1 part ++ beBytes 1 lane ++ key.bytes ++ [kind.code] ++ timeBytes time

/-- The contents of a report, in the order its rule lists them (R174, R175, chapter 11). The durations and the
ring-down counter take 2 bytes (log entry 19). -/
def Report.bytes : Report → List Byte
  | .passage lane dir zone origin key tag time =>
    beBytes 1 lane ++ [dir.code] ++ beBytes 1 zone ++ [origin.code] ++ optKeyBytes key ++ optTagBytes tag ++
      timeBytes time
  | .forced lane st time => beBytes 1 lane ++ [st.code] ++ optTimeBytes time
  | .provisional lane dir zone key time =>
    beBytes 1 lane ++ [dir.code] ++ beBytes 1 zone ++ key.bytes ++ timeBytes time
  | .loadDone taken rejected excess first aborted =>
    beBytes 4 taken ++ beBytes 4 rejected ++ beBytes 1 excess ++ rejectionBytes first ++ [yesNo aborted]
  | .holdLapsed tag key kind cause use => tag.bytes ++ key.bytes ++ [kind.code, cause.code, use.code]
  | .duplicate key occasion time origin => key.bytes ++ [occasion.code] ++ timeBytes time ++ origin.bytes
  | .unknownUse key kind time origin => key.bytes ++ [kind.code] ++ timeBytes time ++ origin.bytes
  | .fault lane left => beBytes 1 lane ++ [left.code]
  | .recovered lane entered => beBytes 1 lane ++ [entered.code]
  | .emergency cause => [cause.code]
  | .emergencyCleared seconds => beBytes 2 seconds
  | .ringUp seconds downs => beBytes 2 seconds ++ beBytes 2 downs
  | .ringDown downs => beBytes 2 downs

/-- A lane's configuration as SET_LANE carries it after the lane number (chapter 11). -/
def LaneConfig.bytes (c : LaneConfig) : List Byte :=
  [yesNo c.fitted, c.direction.code] ++ beBytes 1 c.zone ++ classBytes c.classes ++ [c.priority.code] ++
    beBytes 1 c.passWindow ++ beBytes 1 c.echoWindow ++ beBytes 1 c.staleLimit ++ [c.policy.code]

/-- The last disposition behind a presence byte: message, argument, key behind its own, time (chapter 11). -/
def lastBytes : Option LastDisposition → List Byte
  | some d =>
    1 :: d.disposition.message.code :: (beBytes 1 d.disposition.argument ++ optKeyBytes d.disposition.key ++
      optTimeBytes d.time)
  | none => 0 :: List.replicate 17 0

/-- A lane's six counters, two bytes each (R96, chapter 11). -/
def LaneCounters.bytes (c : LaneCounters) : List Byte :=
  beBytes 2 c.admitted ++ beBytes 2 c.refused ++ beBytes 2 c.forced ++ beBytes 2 c.manual ++
    beBytes 2 c.provisional ++ beBytes 2 c.free

/-- READ_LANE's data (R96, chapter 11). -/
def LaneReadout.bytes (r : LaneReadout) : List Byte :=
  r.config.bytes ++ [r.state.code, yesNo r.openIntent] ++ beBytes 1 r.seq ++
    [match r.origin with | some o => o.code | none => 0xFF] ++ lastBytes r.last ++ r.counters.bytes

/-- The gate settings as SET_GATE carries them (chapter 11). -/
def Settings.bytes (g : Settings) : List Byte :=
  beBytes 2 g.claimTimeout ++ beBytes 1 g.holdLimit ++ [g.mask.toByte]

/-- The seven ring counters in R151's order, two bytes each. -/
def RingCounters.bytes (c : RingCounters) : List Byte :=
  beBytes 2 c.checkErrors ++ beBytes 2 c.strayCells ++ beBytes 2 c.returnedDrops ++ beBytes 2 c.hopExpiries ++
    beBytes 2 c.transitOverruns ++ beBytes 2 c.transmitDrops ++ beBytes 2 c.ringDowns

/-- READ_GATE's 53 bytes of data, in the order of R170's table (chapter 11). -/
def GateReadout.bytes (g : GateReadout) : List Byte :=
  beBytes 1 g.position ++ beBytes 1 g.size ++
    [conditionByte g.strapFault g.ringUp g.emergencyLatched g.emergencyInput] ++
    g.ringCounters.bytes ++ beBytes 1 g.transitFill ++ beBytes 1 g.localFill ++ beBytes 1 g.generalFill ++
    [g.tableStatus.code] ++ beBytes 2 (g.remaining - 1) ++ beBytes 4 g.tableFill ++
    beBytes 1 g.intakeFill ++ beBytes 1 g.holdCount ++ beBytes 2 g.noticeDrops ++ beBytes 2 g.strayAbandons ++
    beBytes 1 g.trackerEntries ++ beBytes 2 g.logFill ++ beBytes 2 g.lateVerdicts ++ beBytes 2 g.unloggedExits ++
    beBytes 2 g.logDrops ++ optTimeBytes g.clock ++ g.settings.bytes ++ beBytes 1 g.commandFill ++
    beBytes 2 g.commandDrops

/-- The data of a reply (chapter 11, reply data). A zone's four values take 2 bytes each (log entry 19). -/
def ReplyData.bytes : ReplyData → List Byte
  | .nothing => []
  | .put outcome => [outcome.code]
  | .opened remaining => beBytes 2 (remaining - 1)
  | .loaded first second remaining =>
    [first.code, match second with | some st => st.code | none => 0] ++ beBytes 2 remaining
  | .record r =>
    Image.bytes ⟨r.key, r.static⟩ ++ [r.uses.use.code] ++ beBytes 1 r.uses.reentries ++ timeBytes r.uses.lastExit ++
      [yesNo r.revoked, yesNo r.hold.isSome]
  | .lane r => r.bytes
  | .quota q => beBytes 2 q
  | .zone z => beBytes 2 z.quota ++ beBytes 2 z.count ++ beBytes 2 z.reserved ++ beBytes 2 z.underflow
  | .clock second => timeBytes second
  | .settings g => g.bytes
  | .gate g => g.bytes
  | .straps position size fault => beBytes 1 position ++ beBytes 1 size ++ [yesNo fault]

/-- The payload of a cell (section 11.2), before it is filled up with zeros. -/
def CellBody.bytes : CellBody → List Byte
  | .intake e => e.bytes
  | .verdict tag key name argument => tag.bytes ++ key.bytes ++ [name.code] ++ beBytes 1 argument
  | .reply code request status data => [code, request, status.code] ++ data.bytes
  | .timed report second => [report.code] ++ optTimeBytes second ++ report.bytes

/-- A payload filled up to 56 bytes with zeros (section 11.2, R176). -/
def padPayload (bytes : List Byte) : List Byte := (bytes ++ List.replicate 56 0).take 56

/-- The 62 bytes of an originated cell before its check: hop count 15, spare bytes zero (R143, section 11.2). -/
def headerAndPayload (destination source : Nat) (type : Byte) (payload : List Byte) : List Byte :=
  [BitVec.ofNat 8 (destination % 16), BitVec.ofNat 8 source, type, 15, 0, 0] ++ padPayload payload

/-- A cell with its check, as it goes out (R143, section 11.2). -/
def withCheck (body : List Byte) : List Byte := body ++ crcBytes body

/-- The 64 bytes of a cell this part originates at ring position `p` (R143). -/
def LocalCell.wire (p : Nat) (c : LocalCell) : List Byte :=
  withCheck (headerAndPayload c.destination p c.body.type c.body.bytes)

/-- The 64 bytes of an IDLE cell (R143). -/
def idleWire (p : Nat) : List Byte := withCheck (headerAndPayload Config.station p idleType [])

/-- A lane-bus cell with its check byte (section 11.3). -/
def busCell (bytes : List Byte) : List Byte := bytes ++ [busCheckByte bytes]

/-- The poll and the fetch of a lane's head (section 11.3). -/
def pollCell (lane : LaneNo) : List Byte := busCell (beBytes 1 lane ++ [0x01])
def fetchCell (lane : LaneNo) : List Byte := busCell (beBytes 1 lane ++ [0x02])

/-- The delivery of a disposition (section 11.3). The key presence byte is 01H, or 00H before ten zero bytes, the codes
that chapter 11 gives for the key of a report: DEDUCED, section 11.3 gives none (log entry 32). -/
def deliveryCell (lane : LaneNo) (d : Disposition) : List Byte :=
  busCell (beBytes 1 lane ++ [0x03, d.message.code] ++ beBytes 1 d.argument ++ optKeyBytes d.key)

/-- What the port has on the lane bus for the transaction under way (section 11.3). -/
def Transaction.wire : Transaction → List Byte
  | .poll lane => pollCell lane
  | .fetch lane => fetchCell lane
  | .delivery lane d _ => deliveryCell lane d

end Sys2Proof.Machine
end

