-- ==== Sys2Proof/Machine/Keys.lean ====
section
/-! DEFINITION. The Key Former: keys, homes and buckets (01_credentials_and_keys.md). -/

namespace Sys2Proof.Machine

/-- Nibble `i` of a payload area, the high nibble of a byte first (R2). -/
def nibble (payload : List Byte) (i : Nat) : Nat :=
  if i % 2 = 0 then (byteAt payload (i / 2)).toNat / 16 else (byteAt payload (i / 2)).toNat % 16

/-- The first `n` nibbles of a payload area, in reading order (R2). -/
def digitsOf (payload : List Byte) (n : Nat) : List Nat := (List.range n).map (nibble payload)

/-- The weight of the digit at place `i` from the left: 7, 3, 1, 7, 3, 1 and so on (R3). -/
def weight (i : Nat) : Nat := if i % 3 = 0 then 7 else if i % 3 = 1 then 3 else 1

/-- The weighted sum of the digits whose first stands at place `i` (R3). -/
def weightedSum : Nat → List Nat → Nat
  | _, [] => 0
  | i, d :: ds => weight i * d + weightedSum (i + 1) ds

/-- The check digit the digits before it require (R3). -/
def requiredCheck (digits : List Nat) : Nat := (10 - weightedSum 0 digits % 10) % 10

/-- The decimal integer some digits spell (R4). -/
def decimal (digits : List Nat) : Nat := digits.foldl (fun acc d => acc * 10 + d) 0

/-- A BARCODE presentation passes R2: the length, the digit nibbles, and the pad nibble of an odd length. -/
def barcodeFormed (length : Nat) (payload : List Byte) : Bool :=
  6 ≤ length && length ≤ 19 && (digitsOf payload length).all (· < 10) &&
    (length % 2 == 0 || nibble payload length < 10 || nibble payload length == 15)

/-- The key of a BARCODE presentation, or MISREAD (R2, R3, R4). -/
def barcodeKey (length : Nat) (payload : List Byte) : Option Key :=
  let digits := digitsOf payload length
  if barcodeFormed length payload && digits.getLast? == some (requiredCheck digits.dropLast) then
    some ⟨barcodeMedium, length, decimal digits⟩
  else none

/-- The key of a CARD presentation, or MISREAD (R5). -/
def cardKey (length : Nat) (payload : List Byte) : Option Key :=
  if length = 4 ∨ length = 7 then some ⟨cardMedium, length, natAt payload 0 length⟩ else none

/-- The key of a presentation; none is MISREAD (R1). -/
def formKey (medium : Byte) (length : Nat) (payload : List Byte) : Option Key :=
  if medium == barcodeMedium then barcodeKey length payload
  else if medium == cardMedium then cardKey length payload
  else none

/-- A key in a management cell is well formed (R7). -/
def Key.formed (k : Key) : Bool :=
  (k.medium == barcodeMedium && 6 ≤ k.length && k.length ≤ 19 && k.value < 10 ^ k.length) ||
    (k.medium == cardMedium && (k.length == 4 || k.length == 7) && k.value < 2 ^ (8 * k.length))

/-- The home of a key on a ring of `size` parts (R9). -/
def Key.home (k : Key) (size : Nat) : Nat := k.value % size

/-- The bucket of a key on a ring of `size` parts (R10). -/
def Key.bucket (k : Key) (size : Nat) : Nat := k.value / size % Config.buckets

end Sys2Proof.Machine
end

