-- ==== Sys2Proof/Machine/Operands.lean ====
section
/-! DEFINITION. The fields of the bytes that reach the part: ring cells, management cells and the answers of lane
heads (11_cell_and_record_formats.md). Spare bytes and bits are not looked at (R176). -/

namespace Sys2Proof.Machine

/-- A key in its encoding at offset `off`, as carried (section 11.1, R8, R176). -/
def keyAt (bytes : List Byte) (off : Nat) : Key :=
  ⟨byteAt bytes off, natAt bytes (off + 1) 1, natAt bytes (off + 2) 8⟩

/-- A tag at offset `off` (section 11.1). -/
def tagAt (bytes : List Byte) (off : Nat) : Tag :=
  ⟨natAt bytes off 1, natAt bytes (off + 1) 1, natAt bytes (off + 2) 1⟩

/-- A received time, taken as 1,048,575 when above it (R176). -/
def timeAt (bytes : List Byte) (off : Nat) : Nat := min (natAt bytes off 4) Config.maxSecond

/-- The record image at offset `off` (chapter 11): open and close in the low 14 bits of their fields. -/
def imageAt (bytes : List Byte) (off : Nat) : Image where
  key := keyAt bytes off
  static :=
    { cls := natAt bytes (off + 10) 1 / 16
      zones := byteAt bytes (off + 11)
      openMinute := natAt bytes (off + 13) 2 % 16384
      closeMinute := natAt bytes (off + 15) 2 % 16384
      allowance := natAt bytes (off + 10) 1 % 16
      cooldown := natAt bytes (off + 12) 1 }

/-! ### Ring cells -/

def cellDestination (cell : List Byte) : Nat := natAt cell 0 1 % 16
def cellSource (cell : List Byte) : Nat := natAt cell 1 1 % 16
def cellType (cell : List Byte) : Byte := byteAt cell 2
def cellHops (cell : List Byte) : Nat := natAt cell 3 1 % 16
def cellPayload (cell : List Byte) : List Byte := slice cell 6 56

/-- Whether the check of a 64-byte cell is right (R144, section 11.2). -/
def goodCheck (cell : List Byte) : Bool := slice cell 62 2 == crcBytes (cell.take 62)

/-- The 62 bytes of a forwarded cell: as received, the hop count one lower (R143, R147; log entry 20). -/
def forwarded (cell : List Byte) : List Byte := (cell.take 62).set 3 (byteAt cell 3 - 1)

/-- The intake entry a CLAIM, PASSED, ABANDON or LATE_USE cell carries; none for another type (R39, section 11.2). -/
def intakeOf (type : Byte) (p : List Byte) : Option Intake :=
  if type == claimType then
    some (.claim (tagAt p 0) (keyAt p 3) (Kind.ofByte (byteAt p 13)) (timeAt p 14) (natAt p 18 1)
      (BitVec.ofNat 16 (natAt p 19 2)))
  else if type == passedType then
    some (.passed (tagAt p 0) (keyAt p 3) (Kind.ofByte (byteAt p 13)) (timeAt p 14))
  else if type == abandonType then some (.abandon (tagAt p 0) (keyAt p 3))
  else if type == lateUseType then
    some (.lateUse (natAt p 0 1) (natAt p 1 1) (keyAt p 2) (Kind.ofByte (byteAt p 12)) (timeAt p 13))
  else none

/-- The verdict a VERDICT cell carries, with the address it came from (R127, R177, section 11.2). -/
def verdictOf (source : Nat) (p : List Byte) : HandedVerdict :=
  ⟨some source, tagAt p 0, keyAt p 3, Verdict.ofCode (byteAt p 13), natAt p 14 1⟩

/-- A management command from its code and argument bytes (section 10.1, chapter 11). -/
def commandOf (code : Byte) (a : List Byte) : Command :=
  match code.toNat with
  | 0x01 => .putRecord (imageAt a 0)
  | 0x02 => .loadOpen (natAt a 0 2)
  | 0x03 => .loadRecords (natAt a 0 1) (imageAt a 1) (imageAt a 18)
  | 0x04 => .loadAbort
  | 0x05 => .voidKey (keyAt a 0)
  | 0x06 => .restoreKey (keyAt a 0)
  | 0x07 => .dropKey (keyAt a 0)
  | 0x08 => .queryKey (keyAt a 0)
  | 0x09 =>
    .setLane (natAt a 0 1) (byteAt a 1) (byteAt a 2) (natAt a 3 1) (BitVec.ofNat 16 (natAt a 4 2)) (byteAt a 6)
      (natAt a 7 1) (natAt a 8 1) (natAt a 9 1) (byteAt a 10)
  | 0x0A => .laneOpen (natAt a 0 1)
  | 0x0B => .laneClose (natAt a 0 1)
  | 0x0C => .laneReset (natAt a 0 1)
  | 0x0D => .laneRelease (natAt a 0 1)
  | 0x0E => .readLane (natAt a 0 1) (byteAt a 1 != 0)
  | 0x0F => .setZone (natAt a 0 1) (natAt a 1 2)
  | 0x10 => .readZone (natAt a 0 1) (byteAt a 1 != 0)
  | 0x11 => .setClock (natAt a 0 4)
  | 0x12 => .setGate (natAt a 0 2) (natAt a 2 1) (byteAt a 3)
  | 0x13 => .readGate (byteAt a 0 != 0)
  | 0x14 => .emergencyClear
  | 0x15 => .gateClear
  | _ => .unknown code

/-- The management cell of a MGMT payload (section 10.1, section 11.2). -/
def mgmtOf (source : Nat) (p : List Byte) : MgmtCell :=
  ⟨source, byteAt p 1, commandOf (byteAt p 0) (p.drop 2)⟩

/-! ### Answers of the lane heads (section 11.3) -/

/-- A good poll answer: cell count and room. None for any other bytes, which are no answer (R113; log entry 15). -/
def pollAnswer (bytes : List Byte) : Option (Nat × Nat) :=
  match bytes with
  | [count, room, _] => if busCheck bytes then some (count.toNat, room.toNat) else none
  | _ => none

/-- A fetch answer: none when its check fails, some none for an empty answer, some presentation for a cell (R117).
An answer of neither form fails its check (section 11.3; log entry 15). -/
def fetchAnswer (bytes : List Byte) : Option (Option Presentation) :=
  if busCheck bytes then
    if byteAt bytes 0 == 0x01 && bytes.length == 15 then
      some (some ⟨byteAt bytes 1, natAt bytes 2 1, slice bytes 3 10, natAt bytes 13 1⟩)
    else if byteAt bytes 0 == 0x00 && bytes.length == 2 then some none
    else none
  else none

/-- Whether a delivery's answer is an acknowledgement with a correct check byte (R121). -/
def isAcknowledgement (bytes : List Byte) : Bool := byteAt bytes 0 == 0x06 && bytes.length == 2 && busCheck bytes

end Sys2Proof.Machine
end

