-- ==== Sys2Proof/Machine/Ops.lean ====
section
/-! DEFINITION. The operations the steps share: reading and writing the numbered items of a block, the admission
table, the local transmit queue with replies and reports, the intake queue, verdicts, holds and uses. -/

namespace Sys2Proof.Machine

/-! ### Numbered items -/

/-- The item at place `i` changed by `f`. -/
def modAt {α : Type} {n : Nat} (v : Vector α n) (i : Fin n) (f : α → α) : Vector α n := v.set i (f v[i])

/-- The lanes in ascending order. -/
def laneNos : List LaneNo := (List.range 16).map (Fin.ofNat 16)

/-- The hold table's entries in ascending order. -/
def holdNos : List HoldNo := (List.range 64).map (Fin.ofNat 64)

/-- One item for each lane. -/
def perLane {α : Type} (f : LaneNo → α) : Vector α 16 := ⟨(laneNos.map f).toArray, by simp [laneNos]⟩

def State.lane (s : State) (l : LaneNo) : Lane := s.lanes[l]
def State.head (s : State) (l : LaneNo) : Head := s.lbp.heads[l]
def State.line (s : State) (l : LaneNo) : Lines := s.tlu.lines[l]
def State.zone (s : State) (z : ZoneNo) : Zone := s.zcu.zones[z]
def State.place (s : State) (l : LaneNo) : Option TrackerEntry := s.clt.tracker[l]
def State.holdAt (s : State) (i : HoldNo) : Option Hold := s.hdu.holds[i]

def State.modLane (s : State) (l : LaneNo) (f : Lane → Lane) : State := { s with lanes := modAt s.lanes l f }
def State.modHead (s : State) (l : LaneNo) (f : Head → Head) : State :=
  { s with lbp := { s.lbp with heads := modAt s.lbp.heads l f } }
def State.modLine (s : State) (l : LaneNo) (f : Lines → Lines) : State :=
  { s with tlu := { s.tlu with lines := modAt s.tlu.lines l f } }
def State.modZone (s : State) (z : ZoneNo) (f : Zone → Zone) : State :=
  { s with zcu := { s.zcu with zones := modAt s.zcu.zones z f } }
def State.setPlace (s : State) (l : LaneNo) (e : Option TrackerEntry) : State :=
  { s with clt := { s.clt with tracker := modAt s.clt.tracker l fun _ => e } }
def State.setHold (s : State) (i : HoldNo) (h : Option Hold) : State :=
  { s with hdu := { s.hdu with holds := modAt s.hdu.holds i fun _ => h } }

/-- A step of a part that is not held in reset; one that is does nothing (R152, section 5.7). -/
def whenRunning (s : State) (f : State → State) : Host.Outcome State Fault Refusal :=
  if s.inReset then .next s else .next (f s)

/-- The timebase when a moment comes: it never goes back (log entry 4). -/
def State.reach (s : State) (moment : Nat) : State := { s with timebase := max s.timebase moment }

/-- A free value below `n`, and the counter moved on to the next one (log entry 9). -/
def State.free (s : State) (n : Nat) : Nat := Config.freeValue s.freeCount % n
def State.freeUsed (s : State) : State := { s with freeCount := s.freeCount + 1 }

/-- The part is in STRAP_FAULT: the latched P is not below the latched S (R155). -/
def Grp.strapFault (g : Grp) : Bool := g.size ≤ g.position

/-! ### The admission table -/

/-- The record in a slot; none when it is empty. -/
def Table.read : Table → Nat → Option Record
  | [], _ => none
  | (q, r) :: t, p => if q = p then some r else Table.read t p

/-- The table with a record in a slot. -/
def Table.write : Table → Nat → Record → Table
  | [], p, r => [(p, r)]
  | (q, x) :: t, p, r =>
    if p < q then (p, r) :: (q, x) :: t else if p = q then (p, r) :: t else (q, x) :: Table.write t p r

/-- The table with a slot emptied. -/
def Table.erase : Table → Nat → Table
  | [], _ => []
  | (q, x) :: t, p => if q = p then t else (q, x) :: Table.erase t p

/-- The canonical form: positions strictly rising, all of them positions of the table. -/
abbrev Table.wf (t : Table) : Prop :=
  t.Pairwise (fun a b => a.1 < b.1) ∧ ∀ a ∈ t, a.1 < Config.buckets * Config.slots

/-- The positions of a bucket's eight slots, in ascending order (R14, R17). -/
def bucketSlots (bucket : Nat) : List Nat := (List.range Config.slots).map (bucket * Config.slots + ·)

/-- A lookup: the position of the record of the key's bucket whose key is equal (R17). -/
def Table.lookup (t : Table) (size : Nat) (k : Key) : Option Nat :=
  (bucketSlots (k.bucket size)).find? fun p => (Table.read t p).any (·.key == k)

/-- The lowest-numbered empty slot of the key's bucket (R17). -/
def Table.vacant (t : Table) (size : Nat) (k : Key) : Option Nat :=
  (bucketSlots (k.bucket size)).find? fun p => (Table.read t p).isNone

/-- The use fields of an inserted record (R15). -/
def UseFields.fresh : UseFields := ⟨.fresh, 0, 0⟩

/-- The record an insertion places (R15, R23). -/
def Image.inserted (im : Image) : Record := ⟨im.key, im.static, .fresh, false, none⟩

/-- The status of a record that fails a test of R22; none when it passes all four. -/
def Image.fault (im : Image) (position size : Nat) : Option Status :=
  if !im.key.formed then some .badArg
  else if im.static.zones == 0 then some .badArg
  else if im.static.closeMinute ≤ im.static.openMinute then some .badArg
  else if im.key.home size ≠ position then some .wrongHome
  else none

/-- What an upsert answers: the table after it, its status, and whether it inserted or replaced (R22, R23). -/
structure Upserted where
  adt : Adt
  status : Status
  outcome : PutOutcome
  deriving DecidableEq, Repr

/-- The record is validated and upserted (R22, R23, R24). -/
def Adt.upsert (a : Adt) (position size : Nat) (im : Image) : Upserted :=
  match im.fault position size with
  | some st => ⟨a, st, .refused⟩
  | none =>
    match a.table.lookup size im.key with
    | some p =>
      match a.table.read p with
      | some r => ⟨{ a with table := a.table.write p { r with static := im.static } }, .ok, .replaced⟩
      | none => ⟨a, .ok, .replaced⟩
    | none =>
      match a.table.vacant size im.key with
      | some p => ⟨{ a with table := a.table.write p im.inserted, fill := a.fill + 1 }, .ok, .new⟩
      | none => ⟨a, .bucketFull, .refused⟩

/-- The record at a position in this part's table. -/
def State.recordAt (s : State) (p : Nat) : Option Record := s.adt.table.read p

/-- The position of the record of a key in this part's table (R17). -/
def State.lookup (s : State) (k : Key) : Option Nat := s.adt.table.lookup s.grp.size k

def State.writeRecord (s : State) (p : Nat) (r : Record) : State :=
  { s with adt := { s.adt with table := s.adt.table.write p r } }

/-! ### The local transmit queue, replies and reports -/

/-- General cells may use 24 places of the local transmit queue (R148). -/
def CellBody.general : CellBody → Bool
  | .intake (.claim ..) => true
  | .intake (.lateUse ..) => true
  | .intake _ => false
  | .verdict .. => false
  | .reply .. => true
  | .timed .. => true

/-- The general cells in the local transmit queue (R148, R151). -/
def Grp.generalFill (g : Grp) : Nat := (g.localQueue.filter (·.body.general)).length

/-- Whether the queue has room for a general cell (R138, R148). -/
def Grp.generalRoom (g : Grp) : Bool :=
  g.generalFill < Config.generalPlaces && g.localQueue.length < Config.localPlaces

/-- Whether a cell offered now joins the queue (R148). -/
def Grp.accepts (g : Grp) (b : CellBody) : Bool :=
  if b.general then g.generalRoom else g.localQueue.length < Config.localPlaces

/-- Whether a refused cell is dropped and counted: every type but CLAIM and LATE_USE, whose sender is told (R148). -/
def CellBody.countedWhenRefused : CellBody → Bool
  | .intake (.claim ..) => false
  | .intake (.lateUse ..) => false
  | _ => true

/-- A cell offered to the local transmit queue (R148). -/
def Grp.offer (g : Grp) (c : LocalCell) : Grp :=
  if g.accepts c.body then { g with localQueue := g.localQueue ++ [c] }
  else if c.body.countedWhenRefused then
    { g with counters := { g.counters with transmitDrops := bump g.counters.transmitDrops } }
  else g

def State.offer (s : State) (c : LocalCell) : State := { s with grp := s.grp.offer c }

/-- Whether the report mask lets a report be built; only three kinds are subject to it (R173). -/
def Mask.permits (m : Mask) : Report → Bool
  | .passage .. => m.passage
  | .forced .. => m.forced
  | .provisional .. => m.provisional
  | _ => true

/-- A block asks for a report: the MGU builds it with the second on its clock and offers it (R173; log entry 23). -/
def State.report (s : State) (r : Report) : State :=
  { s with
    grp := if s.mgu.settings.mask.permits r then s.grp.offer ⟨Config.station, .timed r s.mgu.clock⟩ else s.grp }

/-- The reply to a management cell: code and request number as received, to the address it came from (R166). -/
def State.reply (s : State) (c : MgmtCell) (st : Status) (d : ReplyData) : State :=
  s.offer ⟨c.source, .reply c.command.code c.request st d⟩

/-- What executing a command comes to: the state after it, the status and data of its reply, and the reports that
follow the reply (R165, R166). -/
structure Answer where
  state : State
  status : Status
  data : ReplyData
  reports : List Report
  deriving DecidableEq, Repr

/-- A command refused with a status: nothing changes and the reply has no data (R165; log entry 18). -/
def State.refuse (s : State) (st : Status) : Answer := ⟨s, st, .nothing, []⟩

/-- A command carried out. -/
def State.accept (s : State) (d : ReplyData) : Answer := ⟨s, .ok, d, []⟩

/-- The MGU takes the command at the head of its queue, executes it whole unless the part is in STRAP_FAULT, and
offers the reply and then the reports (R164, R165, R166). -/
def State.execute (s : State) (c : MgmtCell) (rest : List MgmtCell) (run : State → Answer) : State :=
  let taken : State := { s with mgu := { s.mgu with queue := rest } }
  let a := if s.grp.strapFault then taken.refuse .badStrap else run taken
  a.reports.foldl State.report (a.state.reply c a.status a.data)

/-! ### The intake queue and verdicts -/

/-- A verdict handed to this part's Claim Tracker. -/
def State.handVerdict (s : State) (v : HandedVerdict) : State :=
  { s with clt := { s.clt with inbox := s.clt.inbox ++ [v] } }

/-- A verdict delivered by the requester part of the tag: to this part's Claim Tracker, or in a VERDICT cell (R42). -/
def State.deliverVerdict (s : State) (t : Tag) (k : Key) (v : Verdict) (argument : Nat) : State :=
  if t.part = s.grp.position then s.handVerdict ⟨none, t, k, some v, argument⟩
  else s.offer ⟨t.part % 16, .verdict t k v argument⟩

def Intake.isClaim : Intake → Bool
  | .claim .. => true
  | _ => false

/-- The intake queue with an entry joined at its tail, or the notice counted as dropped (R40). A claim that does not
join leaves the queue as it is. -/
def Hdu.join (h : Hdu) (e : Intake) : Hdu :=
  if h.intake.length < (if e.isClaim then Config.intakeClaimPlaces else Config.intakePlaces) then
    { h with intake := h.intake ++ [e] }
  else if e.isClaim then h
  else { h with noticeDrops := bump h.noticeDrops }

/-- An entry offered to this part's intake queue (R40): it joins, or a claim is answered HOME_BUSY at once, or a
notice is dropped and counted. -/
def State.offerIntake (s : State) (e : Intake) : State :=
  match e with
  | .claim tag key _ _ _ _ =>
    if s.hdu.intake.length < Config.intakeClaimPlaces then { s with hdu := s.hdu.join e }
    else s.deliverVerdict tag key .homeBusy 0
  | _ => { s with hdu := s.hdu.join e }

/-- A notice of this part's lanes or Claim Tracker on its way to the home of its key (R140). -/
def State.sendNotice (s : State) (e : Intake) (k : Key) : State :=
  let home := k.home s.grp.size
  if home = s.grp.position then s.offerIntake e else s.offer ⟨home, .intake e⟩

/-! ### Holds -/

/-- The entry of the live hold with a tag (R43, R52). -/
def State.holdOfTag (s : State) (t : Tag) : Option HoldNo :=
  holdNos.find? fun i => (s.holdAt i).any (·.tag == t)

/-- The lowest-numbered free entry of the hold table (R51). -/
def State.freeHold (s : State) : Option HoldNo := holdNos.find? fun i => (s.holdAt i).isNone

/-- The count of live holds (R50). -/
def State.holdCount (s : State) : Nat := (holdNos.filter fun i => (s.holdAt i).isSome).length

/-- The use fields of the record at a position replaced and its hold field cleared. -/
def State.releaseRecord (s : State) (p : Nat) (u : UseFields) : State :=
  match s.recordAt p with
  | some r => s.writeRecord p { r with uses := u, hold := none }
  | none => s

/-- A hold ended with the use fields it leaves behind: the record's hold field is cleared and the hold freed
(R53, R55, R56). -/
def State.endHold (s : State) (i : HoldNo) (h : Hold) (u : UseFields) : State :=
  (s.releaseRecord h.position u).setHold i none

/-- A lapse: the record is reverted to the snapshot, the hold freed, and HOLD_LAPSED sent (R56, R61). -/
def State.lapse (s : State) (i : HoldNo) (h : Hold) (cause : LapseCause) : State :=
  match s.recordAt h.position with
  | some r => (s.endHold i h h.snapshot).report (.holdLapsed h.tag r.key h.kind cause h.snapshot.use)
  | none => s.endHold i h h.snapshot

/-- A hold whose deadline has passed is lapsed. -/
def State.lapseIfOverdue (s : State) (i : HoldNo) : State :=
  match s.holdAt i with
  | some h => if h.deadline ≤ s.timebase then s.lapse i h .deadline else s
  | none => s

/-- Every hold whose deadline has passed is lapsed, before the HDU takes an entry (R41, R56; log entry 5). -/
def State.lapseOverdue (s : State) : State := holdNos.foldl State.lapseIfOverdue s

/-- A live hold with the tag of a claim just taken is lapsed (R43). -/
def State.lapseReused (s : State) (t : Tag) : State :=
  match s.holdOfTag t with
  | some i =>
    match s.holdAt i with
    | some h => s.lapse i h .tagReuse
    | none => s
  | none => s

/-- A grant creates a hold in a free entry, on the record at a position (R51). -/
def State.createHold (s : State) (i : HoldNo) (t : Tag) (p : Nat) (kind : Kind) (r : Record) : State :=
  (s.writeRecord p { r with hold := some i }).setHold i
    (some ⟨t, p, kind, r.uses, s.timebase + s.mgu.settings.holdLimit * 1000⟩)

/-- The hold a PASSED or ABANDON matches: equal tag, and the key of the record it is on (R52). -/
def State.matchedHold (s : State) (t : Tag) (k : Key) : Option (HoldNo × Hold) :=
  match s.holdOfTag t with
  | some i =>
    match s.holdAt i with
    | some h => if (s.recordAt h.position).any (·.key == k) then some (i, h) else none
    | none => none
  | none => none

/-! ### Uses -/

/-- The outcome table of R53 for a kind and a use time, from the use fields it starts from. -/
def useOutcome (kind : Kind) (time : Nat) (u : UseFields) : UseFields :=
  match kind, u.use with
  | .entry, .fresh => { u with use := .inside }
  | .entry, .outside => { u with use := .inside, reentries := if u.reentries < 15 then u.reentries + 1 else 15 }
  | .entry, .inside => u
  | .exit, .inside => { u with use := .outside, lastExit := time }
  | .exit, .fresh => u
  | .exit, .outside => u

/-- Whether that row of R53's table is an entry from INSIDE, which sends DUPLICATE (R63). -/
def isDuplicate (kind : Kind) (u : UseFields) : Bool := kind == .entry && u.use == .inside

/-- A DUPLICATE report when the row asks for one (R63). -/
def State.reportDuplicate (s : State) (kind : Kind) (u : UseFields) (k : Key) (o : Occasion) (time : Nat)
    (origin : UseOrigin) : State :=
  if isDuplicate kind u then s.report (.duplicate k o time origin) else s

/-- A use applied (R59): to the record, or to the snapshot of the hold on it, or UNKNOWN_USE when the key is not
found or the table is sweeping (R20, R62). -/
def State.applyUse (s : State) (k : Key) (kind : Kind) (time : Nat) (origin : UseOrigin) : State :=
  if s.adt.phase = .sweeping then s.report (.unknownUse k kind time origin)
  else
    match s.lookup k with
    | none => s.report (.unknownUse k kind time origin)
    | some p =>
      match s.recordAt p with
      | none => s.report (.unknownUse k kind time origin)
      | some r =>
        match r.hold with
        | none =>
          (s.writeRecord p { r with uses := useOutcome kind time r.uses }).reportDuplicate kind r.uses k .appliedUse
            time origin
        | some i =>
          match s.holdAt i with
          | some h =>
            (s.setHold i (some { h with snapshot := useOutcome kind time h.snapshot })).reportDuplicate kind
              h.snapshot k .appliedUse time origin
          | none => s

end Sys2Proof.Machine
end

