-- ==== Sys2Proof/Machine/LaneOps.lean ====
section
/-! DEFINITION. The operations the lane steps share: events at a lane, the turnstile lines, zone requests,
dispositions, settling, passages, the ending of work in flight, unreachable claims (chapters 4, 5, 7 and 9). -/

namespace Sys2Proof.Machine

/-! ### Events at a lane -/

/-- An event handed to a lane: it waits behind those that reached the lane before it (R72). -/
def State.hand (s : State) (l : LaneNo) (e : LaneEvent) : State :=
  s.modLane l fun ln => { ln with events := ln.events ++ [e] }

/-- An event handed to every lane (R106, R109). -/
def State.handAll (s : State) (e : LaneEvent) : State :=
  { s with lanes := perLane fun l => { s.lane l with events := (s.lane l).events ++ [e] } }

def LaneEvent.isPresentation : LaneEvent → Bool
  | .presentation _ => true
  | _ => false

/-- The event a lane takes next, and the events left. A presentation may be overtaken by what reached the lane after
it (R74, R118), so the oldest event that is no presentation is next for every row but PRESENTATION (log entry 3). -/
def takeEvent : List LaneEvent → Option (LaneEvent × List LaneEvent)
  | [] => none
  | e :: es =>
    if e.isPresentation then (takeEvent es).map fun (x, rest) => (x, e :: rest) else some (e, es)

/-- The next event of a lane that is no presentation. -/
def State.nextEvent (s : State) (l : LaneNo) : Option LaneEvent := (takeEvent (s.lane l).events).map (·.1)

/-- The lane with that event taken. -/
def State.eventTaken (s : State) (l : LaneNo) : State :=
  s.modLane l fun ln => { ln with events := ((takeEvent ln.events).map (·.2)).getD ln.events }

/-- A presentation handed to the lane and not yet taken is discarded, and cell in hand is no (R118). -/
def State.dropPresentation (s : State) (l : LaneNo) : State :=
  (s.modLane l fun ln => { ln with events := ln.events.filter (!·.isPresentation) }).modHead l
    fun h => { h with inHand := false }

/-! ### Turnstile lines -/

/-- The lane asks for an indication, which starts from its beginning (R103, R104). -/
def State.indicate (s : State) (l : LaneNo) (i : Indication) : State :=
  s.modLine l fun ln => { ln with indication := i, shownSince := s.timebase }

/-- The arm locked, the latch disarmed and the timer stopped, on leaving AWAIT_PASS (R71). -/
def State.lockArm (s : State) (l : LaneNo) : State :=
  s.modLine l fun ln => { ln with arm := .locked, latch := .disarmed, passTimer := none }

/-- The arm freed for a passage: the latch armed, or captured when the sensor is already active, and the pass timer
started with the lane's pass window (R97, R100, R101). -/
def State.freeArm (s : State) (l : LaneNo) : State :=
  let window := (s.lane l).config.passWindow
  s.modLine l fun ln =>
    { ln with
      arm := .free
      latch := if ln.sensorActive then .captured else .armed
      passTimer := some (s.timebase + window * 1000) }

/-- The arm freed for RELEASED: the latch disarmed and the timer stopped (R106). -/
def State.releaseArm (s : State) (l : LaneNo) : State :=
  s.modLine l fun ln => { ln with arm := .free, latch := .disarmed, passTimer := none }

/-- The states in which the cancel latch accepts presses (R102). -/
def LaneState.takesCancel : LaneState → Bool
  | .validating => true
  | .awaitPass => true
  | _ => false

/-- The lane enters a state; the cancel latch is emptied on leaving VALIDATING and AWAIT_PASS (R102). -/
def State.enter (s : State) (l : LaneNo) (st : LaneState) : State :=
  (s.modLane l fun ln => { ln with state := st }).modLine l
    fun ln => if st.takesCancel then ln else { ln with cancelSet := false }

/-- The state a lane settles into (R70). -/
def Lane.settled (ln : Lane) : LaneState := if ln.openIntent then .idle else .closed

/-- The lane settles with an indication (R70). -/
def State.settle (s : State) (l : LaneNo) (i : Indication) : State :=
  (s.enter l (s.lane l).settled).indicate l i

/-! ### Zones -/

/-- A zone's reservation converted into a count (R158). -/
def Zone.convert (z : Zone) : Zone := { z with reserved := z.reserved - 1, count := bump z.count }

/-- A zone's reservation released (R159). -/
def Zone.release (z : Zone) : Zone := { z with reserved := z.reserved - 1 }

/-- One exit counted (R160). -/
def Zone.exit (z : Zone) : Zone :=
  if 0 < z.count then { z with count := z.count - 1 } else { z with underflow := bump z.underflow }

def ZoneAsk.apply : ZoneAsk → Zone → Zone
  | .convert => Zone.convert
  | .release => Zone.release
  | .exit => Zone.exit

/-- A lane asks the ZCU for something about its zone; the request waits there (R158 to R160, R172). -/
def State.askZone (s : State) (l : LaneNo) (a : ZoneAsk) : State :=
  { s with zcu := { s.zcu with requests := s.zcu.requests ++ [⟨l, (s.lane l).config.zone, a⟩] } }

/-- The ENTRY lane's reservation given up by release; an EXIT lane has none (R159). -/
def State.releasePlace (s : State) (l : LaneNo) : State :=
  if (s.lane l).config.direction = .entry then s.askZone l .release else s

/-- The oldest waiting request of a lane. -/
def State.zoneRequest (s : State) (l : LaneNo) : Option ZoneRequest := s.zcu.requests.find? (·.lane == l)

/-- The requests without the oldest of a lane. -/
def dropRequest (l : LaneNo) : List ZoneRequest → List ZoneRequest
  | [] => []
  | r :: rs => if r.lane = l then rs else r :: dropRequest l rs

/-- The ZCU takes a lane's oldest request. -/
def State.serveZone (s : State) (l : LaneNo) : State :=
  match s.zoneRequest l with
  | some r =>
    State.modZone { s with zcu := { s.zcu with requests := dropRequest l s.zcu.requests } } r.zone (r.ask.apply)
  | none => s

/-- The ZCU takes every waiting request of a lane, in the lane's order; a reservation request of the lane comes
behind them (R157, R159; log entry 17). -/
def State.serveZoneAll (s : State) (l : LaneNo) : State :=
  (s.zcu.requests.filter (·.lane == l)).foldl (fun s _ => s.serveZone l) s

/-- Whether a zone has room for a reservation (R157). -/
def Zone.hasRoom (z : Zone) : Bool := z.count + z.reserved < z.quota

/-- A reservation in a lane's zone, asked when there is room (R157). -/
def State.reserve (s : State) (l : LaneNo) : State :=
  s.modZone (s.lane l).config.zone fun z => { z with reserved := z.reserved + 1 }

/-! ### Dispositions and counters -/

/-- A disposition placed in the lane's one waiting place (R120). -/
def State.placeDisposition (s : State) (l : LaneNo) (d : Disposition) : State :=
  s.modHead l fun h => { h with waiting := some d }

/-- The lane sends a disposition and records it as its last (R83). -/
def State.dispose (s : State) (l : LaneNo) (m : Message) (argument : Nat) (k : Option Key) : State :=
  (s.modLane l fun ln => { ln with last := some ⟨⟨m, argument, k⟩, s.mgu.clock⟩ }).placeDisposition l ⟨m, argument, k⟩

def State.count (s : State) (l : LaneNo) (f : LaneCounters → LaneCounters) : State :=
  s.modLane l fun ln => { ln with counters := f ln.counters }

def State.countRefused (s : State) (l : LaneNo) : State := s.count l fun c => { c with refused := bump c.refused }

/-- A forced rotation: counted, and reported when the mask permits (R88). -/
def State.forced (s : State) (l : LaneNo) : State :=
  (s.count l fun c => { c with forced := bump c.forced }).report (.forced l (s.lane l).state s.mgu.clock)

/-- The event-clock second, and the state after the read; with the clock UNSET, which no lane that reads it meets
(R73, R167), a free value (log entry 10). -/
def State.second (s : State) : Nat × State :=
  match s.mgu.clock with
  | some t => (t, s)
  | none => (s.free (Config.maxSecond + 1), s.freeUsed)

/-! ### Passages -/

/-- The lane begins a passage: AWAIT_PASS, the arm freed, the latch armed, the timer started, the indication shown;
an active sensor gives its rotation at once (R84, R100). -/
def State.beginPassage (s : State) (l : LaneNo) (p : Passage) (i : Indication) : State :=
  let s1 := (((s.modLane l fun ln => { ln with passage := some p }).enter l .awaitPass).freeArm l).indicate l i
  if (s.line l).sensorActive then s1.hand l (.rotation true) else s1

/-- The current presentation and the passage cleared. -/
def State.clearPresentation (s : State) (l : LaneNo) : State :=
  s.modLane l fun ln => { ln with current := none, passage := none }

/-- The lane's PENDING record taken out of the log; the records behind it keep their order (R136, R137). -/
def dropPending (l : Nat) : List LogRecord → List LogRecord
  | [] => []
  | r :: rs => if r.lane = l ∧ r.state = .pending then rs else r :: dropPending l rs

/-- The lane's PENDING record made DONE with the rotation time (R137). -/
def markDone (l time : Nat) : List LogRecord → List LogRecord
  | [] => []
  | r :: rs =>
    if r.lane = l ∧ r.state = .pending then { r with state := .done, time := time } :: rs else r :: markDone l time rs

def State.setLog (s : State) (log : List LogRecord) : State := { s with clt := { s.clt with log := log } }

def State.removePending (s : State) (l : LaneNo) : State := s.setLog (dropPending l s.clt.log)

/-- The claim disowned: the tracker entry removed, or the PENDING record that a result already handed over carried
(R132). -/
def State.disown (s : State) (l : LaneNo) : State :=
  match s.place l with
  | some _ => s.setPlace l none
  | none => s.removePending l

/-- A passage ended without rotation: ABANDON for a GRANTED one, the PENDING record removed for a PROVISIONAL one, the
ENTRY lane's place released (R86, R92). -/
def State.abandonPassage (s : State) (l : LaneNo) : State :=
  let ln := s.lane l
  let s1 :=
    match ln.passage with
    | some ⟨.granted, some t, _⟩ =>
      match ln.current with
      | some c => s.sendNotice (.abandon t c.key) c.key
      | none => s
    | some ⟨.provisional, _, _⟩ => s.removePending l
    | _ => s
  s1.releasePlace l

/-- The lane ends its work in flight (R92). -/
def State.endWork (s : State) (l : LaneNo) : State :=
  let s1 :=
    match (s.lane l).state with
    | .validating => (s.disown l).releasePlace l
    | .awaitPass => s.abandonPassage l
    | _ => s
  s1.clearPresentation l

/-! ### Unreachable claims -/

/-- The Claim Tracker hands a lane the result of its claim (R80). -/
def State.handResult (s : State) (l : LaneNo) (r : Result) : State := s.hand l (.result r)

/-- A PENDING record appended to the log, and the result that carries it (R134, R135). -/
def State.logPending (s : State) (l : LaneNo) (e : TrackerEntry) (kind : Kind) (result : LogRecord → Result) : State :=
  let r : LogRecord := ⟨e.key, kind, l, e.time, .pending⟩
  (s.setLog (s.clt.log ++ [r])).handResult l (result r)

/-- Whether the log holds an ENTRY record with a key (R134, R139). -/
def logHasEntry (log : List LogRecord) (k : Key) : Bool := log.any fun r => r.kind == .entry && r.key == k

/-- An unreachable ENTRY claim under PROVISIONAL (R134). -/
def State.provisionalEntry (s : State) (l : LaneNo) (e : TrackerEntry) : State :=
  if logHasEntry s.clt.log e.key then s.handResult l .provisionalLimit
  else if Config.logPlaces ≤ s.clt.log.length then s.handResult l .logFull
  else s.logPending l e .entry .provisionalAdmit

/-- An unreachable EXIT claim under PROVISIONAL (R135). -/
def State.provisionalExit (s : State) (l : LaneNo) (e : TrackerEntry) : State :=
  if s.clt.log.length < Config.logPlaces then s.logPending l e .exit fun r => .unreachable (some r)
  else
    State.handResult { s with clt := { s.clt with unloggedExits := bump s.clt.unloggedExits } } l (.unreachable none)

/-- A claim found unreachable: the entry is removed and the lane's policy gives the result (R130, R133 to R135). -/
def State.unreachable (s : State) (l : LaneNo) (e : TrackerEntry) : State :=
  let s1 := s.setPlace l none
  match (s.lane l).config.policy, e.kind with
  | .refuse, _ => s1.handResult l (.unreachable none)
  | .provisional, .entry => s1.provisionalEntry l e
  | .provisional, .exit => s1.provisionalExit l e

/-- A lane's REMOTE claim made unreachable, if it has one. -/
def State.unreachableIfRemote (s : State) (l : LaneNo) : State :=
  match s.place l with
  | some e => if e.mode = .remote then s.unreachable l e else s
  | none => s

end Sys2Proof.Machine
end

