-- ==== Sys2Proof/Machine/Bus.lean ====
section
/-! DEFINITION. The steps of the Lane Bus Port: POLL, FETCH, DELIVERY and MISS (06_the_lane_bus.md). A transaction
begins in one step and is closed by its answer, or by MISS, in another. -/

namespace Sys2Proof.Machine

/-- The fitted lanes in ascending order (R112). -/
def State.fittedLanes (s : State) : List LaneNo := laneNos.filter fun l => (s.lane l).config.fitted

/-- Whether a lane's waiting disposition is due (R112, R120). -/
def State.deliveryDue (s : State) (l : LaneNo) : Bool :=
  (s.lane l).config.fitted && (s.head l).waiting.isSome && 0 < (s.head l).room

/-- The lane whose delivery is made next (R112; log entry 27). -/
def State.nextDelivery (s : State) : Option LaneNo := laneNos.find? fun l => s.deliveryDue l

/-- The states in which a lane's head is a candidate (R115). -/
def LaneState.fetches : LaneState → Bool
  | .idle => true
  | .closed => true
  | .released => true
  | _ => false

/-- Whether a lane's head is a candidate for a fetch (R115). -/
def State.candidate (s : State) (l : LaneNo) : Bool :=
  (s.lane l).config.fitted && 0 < (s.head l).offered && !(s.head l).inHand && (s.lane l).state.fetches

/-- The lanes in round-robin order after a pointer, its own lane last (R116). -/
def lanesAfter (p : LaneNo) : List LaneNo := laneNos.map fun i => p + 1 + i

/-- The first candidate of a priority after its pointer (R116). -/
def State.choice (s : State) (pr : Priority) (pointer : LaneNo) : Option LaneNo :=
  (lanesAfter pointer).find? fun l => s.candidate l && (s.lane l).config.priority == pr

/-- The arbiter's choice, with the priority it is made in: HIGH before NORMAL (R116). -/
def State.arbiter (s : State) : Option (Priority × LaneNo) :=
  match s.choice .high s.lbp.highPointer with
  | some l => some (.high, l)
  | none => (s.choice .normal s.lbp.normalPointer).map fun l => (.normal, l)

/-- The lane polled next and the rest of the polling round; the fitted lanes are read as a round begins, and while
none is fitted there is no poll (R112; log entry 16). -/
def State.nextPoll (s : State) : Option (LaneNo × List LaneNo) :=
  match s.fittedLanes, s.lbp.round with
  | [], _ => none
  | l :: rest, [] => some (l, rest)
  | _ :: _, l :: rest => some (l, rest)

/-- A miss on a lane (R114). A lane that has become unfitted keeps its items (R123; log entry 16). -/
def State.missed (s : State) (l : LaneNo) : State :=
  if !(s.lane l).config.fitted then s
  else if (s.head l).missed + 1 < 3 then
    s.modHead l fun h => { h with offered := 0, room := 0, missed := h.missed + 1 }
  else (s.modHead l fun h => { h with offered := 0, room := 0, missed := 0, linked := false }).hand l .linkLoss

/-- The transaction under way closed. -/
def State.busFree (s : State) : State := { s with lbp := { s.lbp with underWay := none } }

/-- A good answer to a poll (R113). It is applied to the lane's items as they stand when it comes, also when the lane
was unfitted and fitted again since the poll began; `missed` and `fetched` do the same with a miss and with the answer
to a fetch (DESIGN CHOICE, log entry 31). -/
def State.polled (s : State) (l : LaneNo) (count room : Nat) : State :=
  if !(s.lane l).config.fitted then s
  else
    let s1 := s.modHead l fun h =>
      { h with offered := min 2 count, room := min 2 room, missed := 0, linked := true }
    if (s.head l).linked then s1 else s1.hand l .linkRegained

/-- POLL: the port polls the next lane of the round once no delivery is due and no fetch is to be made (R112), and a
good answer updates the lane's items (R113). Any other answer is a miss (R113, R114). After a poll the fetch stays open
until the next poll begins: a disposition that becomes due once step 4 of R112 has found no candidate is still
delivered in step 3, and a candidate that appears during that delivery is fetched before the next poll (DESIGN CHOICE,
log entry 30). -/
def execPoll (moment : Exchange) (s : State) : Host.Outcome State Fault Refusal :=
  whenRunning s fun s =>
    match moment, s.lbp.underWay with
    | .begun, none =>
      if s.nextDelivery.isSome || (s.lbp.afterPoll && s.arbiter.isSome) then s
      else
        match s.nextPoll with
        | some (l, rest) =>
          { s with lbp := { s.lbp with round := rest, afterPoll := true, underWay := some (.poll l) } }
        | none => s
    | .answered bytes, some (.poll l) =>
      match pollAnswer bytes with
      | some (count, room) => s.busFree.polled l count room
      | none => s.busFree.missed l
    | _, _ => s

/-- The LBP's own answer to a garbled cell: RESCAN in the lane's waiting place (R119). -/
def rescanDisposition : Disposition := ⟨.rescan, 0, none⟩

/-- The answer to a fetch (R117, R119). -/
def State.fetched (s : State) (l : LaneNo) (answer : Option (Option Presentation)) : State :=
  if !(s.lane l).config.fitted then s
  else
    match answer with
    | some (some p) =>
      (s.modHead l fun h => { h with missed := 0, linked := true, inHand := true }).hand l (.presentation p)
    | some none => s.modHead l fun h => { h with offered := 0, missed := 0 }
    | none => (s.modHead l fun h => { h with missed := 0 }).placeDisposition l rescanDisposition

/-- The arbiter's pointer of a priority moved to the lane chosen (R116). -/
def Lbp.point (b : Lbp) (pr : Priority) (l : LaneNo) : Lbp :=
  match pr with
  | .high => { b with highPointer := l }
  | .normal => { b with normalPointer := l }

/-- FETCH: after a poll and the deliveries behind it, the arbiter's choice is asked for its oldest cell, and a
presentation is handed to the lane (R112, R116, R117). -/
def execFetch (moment : Exchange) (s : State) : Host.Outcome State Fault Refusal :=
  whenRunning s fun s =>
    match moment, s.lbp.underWay with
    | .begun, none =>
      if s.nextDelivery.isSome || !s.lbp.afterPoll then s
      else
        match s.arbiter with
        | some (pr, l) =>
          State.modHead { s with lbp := { s.lbp.point pr l with afterPoll := false, underWay := some (.fetch l) } } l
            fun h => { h with offered := h.offered - 1 }
        | none => s
    | .answered bytes, some (.fetch l) => s.busFree.fetched l (fetchAnswer bytes)
    | _, _ => s

/-- A delivery that was not acknowledged: a miss, and the disposition returns to its place unless a newer one stands
there or it is no longer wanted (R121). -/
def State.undelivered (s : State) (l : LaneNo) (d : Disposition) (discarded : Bool) : State :=
  let s1 := s.missed l
  if discarded then s1 else s1.modHead l fun h => { h with waiting := h.waiting.orElse fun _ => some d }

/-- DELIVERY: a due disposition is sent to its head; an acknowledgement with a correct check byte ends it, any other
answer is a miss (R120, R121). -/
def execDelivery (moment : Exchange) (s : State) : Host.Outcome State Fault Refusal :=
  whenRunning s fun s =>
    match moment, s.lbp.underWay with
    | .begun, none =>
      match s.nextDelivery with
      | some l =>
        match (s.head l).waiting with
        | some d =>
          State.modHead { s with lbp := { s.lbp with underWay := some (.delivery l d false) } } l
            fun h => { h with waiting := none, room := h.room - 1 }
        | none => s
      | none => s
    | .answered bytes, some (.delivery l d discarded) =>
      if isAcknowledgement bytes then
        if (s.lane l).config.fitted then s.busFree.modHead l fun h => { h with missed := 0 } else s.busFree
      else s.busFree.undelivered l d discarded
    | _, _ => s

/-- MISS: the transaction under way has drawn no answer within its window (R114). -/
def execMiss (s : State) : Host.Outcome State Fault Refusal :=
  whenRunning s fun s =>
    match s.lbp.underWay with
    | some (.poll l) => s.busFree.missed l
    | some (.fetch l) => s.busFree.missed l
    | some (.delivery l d discarded) => s.busFree.undelivered l d discarded
    | none => s

end Sys2Proof.Machine
end

