-- ==== Sys2Proof/Machine/LaneCommands.lean ====
section
/-! DEFINITION. The lane commands (04_lane_operation.md, sections 4.1 and 4.6 to 4.9; 06_the_lane_bus.md,
section 6.8). -/

namespace Sys2Proof.Machine

/-- A command that names a lane: BAD_ARG for a number above 15, else the lane (R69, R89 to R93, R96). -/
def State.onLane (s : State) (lane : Nat) (run : LaneNo → Answer) : Answer :=
  if h : lane < 16 then run ⟨lane, h⟩ else s.refuse .badArg

/-- Whether an event waits at a lane, presentations apart: those may be overtaken (R74, R118; log entry 3). -/
def Lane.eventWaits (ln : Lane) : Bool := ln.events.any (!·.isPresentation)

/-- Whether a command for a lane waits for its turn: a lane takes its events, the commands of the MGU among them, in the
order they reach it (chapter 4, R72). In STRAP_FAULT, and for a number above 15, no lane is asked (R155, R165). -/
def State.turnWaits (s : State) (lane : Nat) : Bool :=
  if h : lane < 16 then (s.lane ⟨lane, h⟩).eventWaits && !s.grp.strapFault else false

/-- A command for a lane executed in its turn; until then it waits at the head of the command queue (R72, R164; log
entry 3). -/
def State.executeOnLane (s : State) (lane : Nat) (c : MgmtCell) (rest : List MgmtCell) (run : State → Answer) : State :=
  if s.turnWaits lane then s else s.execute c rest run

/-- A value moved to the nearer end of its range (00_scope.md, section 7). -/
def clamp (low high n : Nat) : Nat := max low (min high n)

/-- Whether a value was moved. -/
def clamped (low high n : Nat) : Bool := clamp low high n != n

/-- The fitted byte: 00H no, 01H yes; what another byte means is not said, and is a free value (chapter 11; log
entry 11). -/
def State.fittedOf (s : State) (b : Byte) : Bool × State :=
  if b == 0x00 then (false, s) else if b == 0x01 then (true, s) else (s.free 2 == 1, s.freeUsed)

/-- The delivery under way to a lane is not wanted back (R121). -/
def Transaction.discardFor (l : LaneNo) : Transaction → Transaction
  | .delivery lane d gone => .delivery lane d (gone || lane == l)
  | t => t

/-- The lane's place for a disposition emptied, and with it a delivery under way (R121, R122). -/
def State.emptyPlace (s : State) (l : LaneNo) : State :=
  let s1 := s.modHead l fun h => { h with waiting := none }
  { s1 with lbp := { s1.lbp with underWay := s1.lbp.underWay.map (Transaction.discardFor l) } }

/-- A lane that becomes unfitted: the port's items return to their reset values, and a presentation on its way is
discarded (R118, R122, R123). -/
def State.unfit (s : State) (l : LaneNo) : State :=
  ((s.emptyPlace l).dropPresentation l).modHead l fun _ => .reset

/-- The configuration SET_LANE carries, its windows clamped (R69); none when a code or the zone names nothing. -/
def configOf (fitted : Bool) (direction : Byte) (zone : Nat) (classes : BitVec 16) (priority : Byte)
    (passWindow echoWindow staleLimit : Nat) (policy : Byte) : Option LaneConfig :=
  if h : zone < 8 then
    match Kind.ofCode direction, Priority.ofCode priority, Policy.ofCode policy with
    | some d, some p, some pol =>
      some
        { fitted := fitted
          direction := d
          zone := ⟨zone, h⟩
          classes := classes
          priority := p
          passWindow := clamp 2 30 passWindow
          echoWindow := clamp 0 5 echoWindow
          staleLimit := clamp 1 10 staleLimit
          policy := pol }
    | _, _, _ => none
  else none

/-- The configuration of a CLOSED lane replaced; a lane that loses its head loses the port's items (R69, R123). -/
def State.configure (s : State) (l : LaneNo) (c : LaneConfig) : State :=
  let s1 := s.modLane l fun ln => { ln with config := c }
  if (s.lane l).config.fitted && !c.fitted then s1.unfit l else s1

/-- SET_LANE (R69). -/
def State.setLane (s : State) (lane : Nat) (fitted direction : Byte) (zone : Nat) (classes : BitVec 16)
    (priority : Byte) (passWindow echoWindow staleLimit : Nat) (policy : Byte) : Answer :=
  s.onLane lane fun l =>
    let f := s.fittedOf fitted
    match configOf f.1 direction zone classes priority passWindow echoWindow staleLimit policy with
    | none => s.refuse .badArg
    | some c =>
      if (s.lane l).state ≠ .closed then s.refuse .laneState
      else
        let moved := clamped 2 30 passWindow || clamped 0 5 echoWindow || clamped 1 10 staleLimit
        ⟨f.2.configure l c, if moved then .okClamped else .ok, .nothing, []⟩

def execSetLane (s : State) : Host.Outcome State Fault Refusal :=
  whenRunning s fun s =>
    match s.mgu.queue with
    | ⟨src, req, .setLane lane fitted direction zone classes priority pw ew sl policy⟩ :: rest =>
      s.executeOnLane lane ⟨src, req, .setLane lane fitted direction zone classes priority pw ew sl policy⟩ rest
        fun s => s.setLane lane fitted direction zone classes priority pw ew sl policy
    | _ => s

/-- LANE_OPEN (R90). -/
def State.laneOpen (s : State) (lane : Nat) : Answer :=
  s.onLane lane fun l =>
    if !(s.lane l).config.fitted then s.refuse .laneState
    else if s.mgu.clock.isNone then s.refuse .noClock
    else
      let s1 := s.modLane l fun ln => { ln with openIntent := true }
      (if (s.lane l).state = .closed then s1.enter l .idle else s1).accept .nothing

def execLaneOpen (s : State) : Host.Outcome State Fault Refusal :=
  whenRunning s fun s =>
    match s.mgu.queue with
    | ⟨src, req, .laneOpen lane⟩ :: rest =>
      s.executeOnLane lane ⟨src, req, .laneOpen lane⟩ rest fun s => s.laneOpen lane
    | _ => s

/-- LANE_CLOSE (R91). -/
def State.laneClose (s : State) (lane : Nat) : Answer :=
  s.onLane lane fun l =>
    let s1 := s.modLane l fun ln => { ln with openIntent := false }
    (if (s.lane l).state = .idle then (s1.enter l .closed).indicate l .dark else s1).accept .nothing

def execLaneClose (s : State) : Host.Outcome State Fault Refusal :=
  whenRunning s fun s =>
    match s.mgu.queue with
    | ⟨src, req, .laneClose lane⟩ :: rest =>
      s.executeOnLane lane ⟨src, req, .laneClose lane⟩ rest fun s => s.laneClose lane
    | _ => s

/-- The lane reset itself: work in flight ended, the echo record and the waiting place cleared, the presentation on its
way discarded, the intent no; CLOSED with the arm locked unless the lane is RELEASED (R93, R118, R122). -/
def State.resetLane (s : State) (l : LaneNo) : State :=
  let s1 := ((s.endWork l).emptyPlace l).dropPresentation l
  let s2 := s1.modLane l fun ln => { ln with echo := none, openIntent := false }
  if (s.lane l).state = .released then s2 else ((s2.lockArm l).enter l .closed).indicate l .dark

/-- LANE_RESET (R93). -/
def State.laneReset (s : State) (lane : Nat) : Answer :=
  s.onLane lane fun l => (s.resetLane l).accept .nothing

def execLaneReset (s : State) : Host.Outcome State Fault Refusal :=
  whenRunning s fun s =>
    match s.mgu.queue with
    | ⟨src, req, .laneReset lane⟩ :: rest =>
      s.executeOnLane lane ⟨src, req, .laneReset lane⟩ rest fun s => s.laneReset lane
    | _ => s

/-- LANE_RELEASE (R89): an IDLE lane begins a MANUAL passage, an ENTRY lane after reserving a place. -/
def State.laneRelease (s : State) (lane : Nat) : Answer :=
  s.onLane lane fun l =>
    if (s.lane l).state ≠ .idle then s.refuse .laneState
    else if (s.lane l).config.direction = .exit then
      (s.beginPassage l ⟨.manual, none, none⟩ .grant).accept .nothing
    else
      let s1 := s.serveZoneAll l
      if (s1.zone (s.lane l).config.zone).hasRoom then
        ((s1.reserve l).beginPassage l ⟨.manual, none, none⟩ .grant).accept .nothing
      else s1.refuse .zoneFull

def execLaneRelease (s : State) : Host.Outcome State Fault Refusal :=
  whenRunning s fun s =>
    match s.mgu.queue with
    | ⟨src, req, .laneRelease lane⟩ :: rest =>
      s.executeOnLane lane ⟨src, req, .laneRelease lane⟩ rest fun s => s.laneRelease lane
    | _ => s

/-- What READ_LANE returns (R96). -/
def Lane.readout (ln : Lane) : LaneReadout where
  config := ln.config
  state := ln.state
  openIntent := ln.openIntent
  seq := ln.seq
  origin := ln.passage.map (·.origin)
  last := ln.last
  counters := ln.counters

/-- READ_LANE: the counters are returned as they stood, and set to 0 with the clear flag (R96). -/
def State.readLane (s : State) (lane : Nat) (clear : Bool) : Answer :=
  s.onLane lane fun l =>
    let s1 := if clear then s.count l fun _ => .zero else s
    s1.accept (.lane (s.lane l).readout)

def execReadLane (s : State) : Host.Outcome State Fault Refusal :=
  whenRunning s fun s =>
    match s.mgu.queue with
    | ⟨src, req, .readLane lane clear⟩ :: rest =>
      s.executeOnLane lane ⟨src, req, .readLane lane clear⟩ rest fun s => s.readLane lane clear
    | _ => s

end Sys2Proof.Machine
end

