-- ==== Sys2Proof/Machine/Resets.lean ====
section
/-! DEFINITION. POWER_ON, RSTN_LOW and what GATE_CLEAR shares with them (R152, R172 and section 5.7). -/

namespace Sys2Proof.Machine

/-- The lines of a lane as a reset ends, their levels read from the pins, active low (R98, R102). -/
def pinLines (pins : Pins) (now : Nat) (l : LaneNo) : Lines :=
  .reset now (!pins.rot.getLsbD l) (!pins.can.getLsbD l)

/-- The emergency input as a reset ends, active low (R105). -/
def emergencyPin (pins : Pins) : Bool := !pins.erel

/-- A lane record as a reset ends: an emergency event waits when the latch is set by the reset (R68, R106). -/
def Lane.afterReset (emergency : Bool) : Lane :=
  { Lane.reset with events := if emergency then [.emergency] else [] }

/-- Every block returned to its reset state and the straps latched; the sweep begins. The table keeps what its slots
held until the sweep has emptied them (R19, R65, R68, R105, R111, R136, R152, R153, R156, R164, R172). -/
def State.resetBlocks (s : State) (pins : Pins) : State :=
  { s with
    inReset := false
    adt := ⟨.sweeping, s.adt.table, 0, none⟩
    hdu := .reset
    clt := .reset
    lanes := Vector.replicate 16 (.afterReset (emergencyPin pins))
    lbp := .reset
    zcu := .reset
    tlu := ⟨perLane (pinLines pins s.timebase), emergencyPin pins, emergencyPin pins, s.timebase⟩
    grp := { Grp.reset pins.ps.toNat (pins.ss.toNat + 1) s.timebase with sending := s.grp.sending }
    mgu := .reset }

/-- The EMERGENCY report of a latch that a reset has set, cause RESET (R105, R106). -/
def State.reportReset (s : State) (pins : Pins) : State :=
  if emergencyPin pins then s.report (.emergency .reset) else s

/-- POWER_ON: the power-on reset ends (R152). The output was silent while RSTN was low (R149). -/
def execPowerOn (pins : Pins) (s : State) : Host.Outcome State Fault Refusal :=
  let s1 := s.resetBlocks pins
  .next (State.reportReset { s1 with grp := { s1.grp with sending := [] } } pins)

/-- The lines of a lane while RSTN is low; the levels are not read (section 5.7). -/
def Lines.heldInReset (ln : Lines) (now : Nat) : Lines :=
  { ln with arm := .locked, indication := .dark, shownSince := now, latch := .disarmed, passTimer := none,
            cancelSet := false }

/-- RSTN_LOW: the part is held in reset; every arm is LOCKED, latches DISARMED, timers STOPPED, lines dark, the emergency
latch not held, and the ring port silent (R97, R100, R101, R104, R149, R152). The transaction on the lane bus stays under
way until the power-on ends it (DESIGN CHOICE, log entry 8). -/
def execRstnLow (s : State) : Host.Outcome State Fault Refusal :=
  .next
    { s with
      inReset := true
      tlu := { s.tlu with lines := perLane fun l => (s.line l).heldInReset s.timebase, latched := false }
      grp := { s.grp with sending := [] } }

end Sys2Proof.Machine
end

