-- ==== Sys2Proof/Machine/Home.lean ====
section
/-! DEFINITION. The steps of the Home Decision Unit: CLAIM, PASSED, ABANDON, LATE_USE and HOLD_DEADLINE
(03_home_decisions_and_holds.md). -/

namespace Sys2Proof.Machine

/-- Seconds in whole minutes rounded up, 255 at most (R45, R46). -/
def minutesUp (seconds : Nat) : Nat := min 255 ((seconds + 59) / 60)

/-- What a claim is decided by, beside the record: kind, presentation time, the lane's zone and class-accept set. -/
structure Asked where
  kind : Kind
  time : Nat
  zone : Nat
  classes : BitVec 16
  deriving DecidableEq, Repr

/-- The wait of R46 in seconds; 0 when the cooldown is over. A time below the last exit counts as no time elapsed. -/
def cooldownWait (r : Record) (time : Nat) : Nat := r.static.cooldown * 60 - (time - r.uses.lastExit)

/-- The ENTRY checks in their order, on the record the lookup found, with whether a hold entry is free (R44). ADMIT
and ADMIT_REENTRY are the grants of check 12. -/
def entryVerdict (found : Option Record) (a : Asked) (free : Bool) : Verdict × Nat :=
  match found with
  | none => (.unknown, 0)
  | some r =>
    if r.revoked then (.void, 0)
    else if !inClassSet a.classes r.static.cls then (.wrongLane, 0)
    else if !inZoneSet r.static.zones a.zone then (.wrongZone, 0)
    else if a.time < r.static.openMinute * 60 then (.tooEarly, minutesUp (r.static.openMinute * 60 - a.time))
    else if r.static.closeMinute * 60 ≤ a.time then (.tooLate, 0)
    else if r.hold.isSome then (.inProgress, 0)
    else if r.uses.use = .inside then (.alreadyIn, 0)
    else if r.uses.use = .outside ∧ r.static.allowance ≤ r.uses.reentries then (.noReentry, 0)
    else if r.uses.use = .outside ∧ 0 < cooldownWait r a.time then (.cooldown, minutesUp (cooldownWait r a.time))
    else if !free then (.homeBusy, 0)
    else if r.uses.use = .fresh then (.admitFresh, 0)
    else (.admitReentry, 0)

/-- The EXIT checks in their order (R47). EXIT_OK is the grant of check 4. -/
def exitVerdict (found : Option Record) (free : Bool) : Verdict × Nat :=
  match found with
  | none => (.exitUnmatched, 0)
  | some r =>
    if r.uses.use ≠ .inside then (.exitUnmatched, 0)
    else if r.hold.isSome then (.inProgress, 0)
    else if !free then (.homeBusy, 0)
    else (.exitOk, 0)

/-- The verdicts that grant (R51). -/
def Verdict.grants : Verdict → Bool
  | .admitFresh => true
  | .admitReentry => true
  | .exitOk => true
  | _ => false

/-- The verdict of a claim on what the lookup found (R44, R47). -/
def claimVerdict (found : Option Record) (a : Asked) (free : Bool) : Verdict × Nat :=
  match a.kind with
  | .entry => entryVerdict found a free
  | .exit => exitVerdict found free

/-- The record a lookup of a key finds, with its position (R17). -/
def State.find (s : State) (k : Key) : Option (Nat × Record) :=
  match s.lookup k with
  | some p => (s.recordAt p).map fun r => (p, r)
  | none => none

/-- A claim decided on the table, once the tag has been cleared of an old hold: a grant creates a hold, and the verdict
is delivered (R42, R44, R47, R51). A sweeping table answers HOME_BUSY (R20), in STRAP_FAULT too, where R41 and R155 by
themselves would have UNKNOWN or EXIT_UNMATCHED (DESIGN CHOICE, log entry 34). -/
def State.decide (s : State) (t : Tag) (k : Key) (a : Asked) : State :=
  if s.adt.phase = .sweeping then s.deliverVerdict t k .homeBusy 0
  else
    let found := s.find k
    let v := claimVerdict (found.map (·.2)) a s.freeHold.isSome
    match v.1.grants, found, s.freeHold with
    | true, some (p, r), some i => (s.createHold i t p a.kind r).deliverVerdict t k v.1 v.2
    | _, _, _ => s.deliverVerdict t k v.1 v.2

/-- The HDU takes the entry at the head of its queue: every hold whose deadline has passed is lapsed first (R41, R56),
the entry leaves the queue, and it is performed whole. -/
def State.takeEntry (s : State) (rest : List Intake) (perform : State → State) : State :=
  let s1 := s.lapseOverdue
  perform { s1 with hdu := { s1.hdu with intake := rest } }

/-- CLAIM: a live hold with the claim's tag is lapsed, then the claim is decided (R43, R44, R47). -/
def execClaim (s : State) : Host.Outcome State Fault Refusal :=
  whenRunning s fun s =>
    match s.hdu.intake with
    | .claim t k kind time zone classes :: rest =>
      s.takeEntry rest fun s => (s.lapseReused t).decide t k ⟨kind, time, zone, classes⟩
    | _ => s

/-- A matching PASSED commits the hold: the outcome is computed from the hold's kind and snapshot (R53). -/
def State.commit (s : State) (i : HoldNo) (h : Hold) (k : Key) (time : Nat) : State :=
  (s.endHold i h (useOutcome h.kind time h.snapshot)).reportDuplicate h.kind h.snapshot k .commit time (.tag h.tag)

/-- PASSED: the matching hold is committed, or the notice is applied as a forced use (R53, R58). -/
def execPassed (s : State) : Host.Outcome State Fault Refusal :=
  whenRunning s fun s =>
    match s.hdu.intake with
    | .passed t k kind time :: rest =>
      s.takeEntry rest fun s =>
        match s.matchedHold t k with
        | some (i, h) => s.commit i h k time
        | none => s.applyUse k kind time (.tag t)
    | _ => s

/-- ABANDON: the matching hold is reverted to its snapshot, or the notice is discarded and counted (R55, R57). -/
def execAbandon (s : State) : Host.Outcome State Fault Refusal :=
  whenRunning s fun s =>
    match s.hdu.intake with
    | .abandon t k :: rest =>
      s.takeEntry rest fun s =>
        match s.matchedHold t k with
        | some (i, h) => s.endHold i h h.snapshot
        | none => { s with hdu := { s.hdu with strayAbandons := bump s.hdu.strayAbandons } }
    | _ => s

/-- LATE_USE: applied as a use (R58, R59). -/
def execLateUse (s : State) : Host.Outcome State Fault Refusal :=
  whenRunning s fun s =>
    match s.hdu.intake with
    | .lateUse part lane k kind time :: rest =>
      s.takeEntry rest fun s => s.applyUse k kind time (.lane part lane)
    | _ => s

/-- HOLD_DEADLINE: the deadline of a live hold passes, and the hold is lapsed (R56). -/
def execHoldDeadline (index : HoldNo) (s : State) : Host.Outcome State Fault Refusal :=
  whenRunning s fun s =>
    match s.holdAt index with
    | some h => (s.reach h.deadline).lapse index h .deadline
    | none => s

end Sys2Proof.Machine
end

