-- ==== Sys2Proof/Machine/Tracker.lean ====
section
/-! DEFINITION. The steps of the Claim Tracker: VERDICT, CLAIM_TIMEOUT and DRAIN_LATE_USE, and what it does with a claim
handed over and with cells the ring returns (07_remote_claims_and_degraded_admission.md). -/

namespace Sys2Proof.Machine

/-- A claim handed over by its lane: the entry is made and the claim sent to its home (R125). -/
def State.trackClaim (s : State) (l : LaneNo) (e : TrackerEntry) (claim : Intake) : State :=
  if e.home = s.grp.position then
    (s.setPlace l (some { e with mode := .atHome, deadline := none })).offerIntake claim
  else if s.grp.ringUp && s.grp.generalRoom then
    (s.setPlace l (some { e with mode := .remote, deadline := some (s.timebase + s.mgu.settings.claimTimeout) })).offer
      ⟨e.home, .intake claim⟩
  else s.unreachable l { e with mode := .remote, deadline := none }

/-- Whether a verdict comes from the home of an entry: from this part's HDU for a LOCAL one, from the home's address
for a REMOTE one (R127). -/
def fromHome (e : TrackerEntry) (v : HandedVerdict) : Bool :=
  match e.mode with
  | .atHome => v.source == none
  | .remote => v.source == some e.home

/-- The lane and entry a verdict matches (R127). -/
def State.matchedClaim (s : State) (v : HandedVerdict) : Option LaneNo :=
  if h : v.tag.lane < 16 then
    match s.place ⟨v.tag.lane, h⟩ with
    | some e =>
      if v.tag.part = s.grp.position ∧ e.seq = v.tag.seq ∧ e.key = v.key ∧ fromHome e v then some ⟨v.tag.lane, h⟩
      else none
    | none => none
  else none

/-- A late verdict: counted, and a grant under this part's tag is abandoned at the part it came from (R128). -/
def State.lateVerdict (s : State) (v : HandedVerdict) (name : Verdict) : State :=
  let s1 : State := { s with clt := { s.clt with lateVerdicts := bump s.clt.lateVerdicts } }
  if name.grants && v.tag.part == s.grp.position then
    match v.source with
    | none => s1.offerIntake (.abandon v.tag v.key)
    | some a => s1.offer ⟨a, .intake (.abandon v.tag v.key)⟩
  else s1

/-- VERDICT: the Claim Tracker takes the oldest verdict handed to it; a match is the claim's answer, any other is late,
and a code that names no verdict is late and no grant (R127, R128, R177). -/
def execVerdict (s : State) : Host.Outcome State Fault Refusal :=
  whenRunning s fun s =>
    match s.clt.inbox with
    | v :: rest =>
      let s1 : State := { s with clt := { s.clt with inbox := rest } }
      match v.name with
      | none => { s1 with clt := { s1.clt with lateVerdicts := bump s1.clt.lateVerdicts } }
      | some name =>
        match s1.matchedClaim v with
        | some l => (s1.setPlace l none).handResult l (.verdict name v.argument)
        | none => s1.lateVerdict v name
    | [] => s

/-- CLAIM_TIMEOUT: the deadline of a REMOTE entry passes, and the claim is unreachable (R126, R130). R126 has the
deadline timed to within 10 ms; the model ends it at the exact millisecond of the timebase (DESIGN CHOICE, log
entry 25). -/
def execClaimTimeout (lane : LaneNo) (s : State) : Host.Outcome State Fault Refusal :=
  whenRunning s fun s =>
    match s.place lane with
    | some e =>
      match e.deadline with
      | some d => (s.reach d).unreachable lane e
      | none => s
    | none => s

/-- DRAIN_LATE_USE: with the ring UP, room for a general cell and a DONE record at the head of the log, that record is
offered to its home as a LATE_USE and leaves the log (R138). -/
def execDrainLateUse (s : State) : Host.Outcome State Fault Refusal :=
  whenRunning s fun s =>
    match s.clt.log with
    | r :: rest =>
      if r.state = .done ∧ s.grp.ringUp ∧ s.grp.generalRoom then
        let late : Intake := .lateUse s.grp.position r.lane r.key r.kind r.time
        (s.setLog rest).sendNotice late r.key
      else s
    | [] => s

/-- A CLAIM cell returned undelivered: the claim is unreachable when the entry still is the cell's, and the cell is
discarded otherwise (R131). -/
def State.claimReturned (s : State) (t : Tag) (k : Key) : State :=
  if h : t.lane < 16 then
    match s.place ⟨t.lane, h⟩ with
    | some e => if e.mode = .remote ∧ e.seq = t.seq ∧ e.key = k then s.unreachable ⟨t.lane, h⟩ e else s
    | none => s
  else s

/-- A LATE_USE cell returned undelivered: put back at the head of the log, or dropped and counted (R139). -/
def State.lateUseReturned (s : State) (lane : Nat) (k : Key) (kind : Kind) (time : Nat) : State :=
  if Config.logPlaces ≤ s.clt.log.length ∨ (kind = .entry ∧ logHasEntry s.clt.log k) then
    { s with clt := { s.clt with logDrops := bump s.clt.logDrops } }
  else s.setLog (⟨k, kind, lane, time, .done⟩ :: s.clt.log)

end Sys2Proof.Machine
end

