-- ==== Sys2Proof/Machine/Ring.lean ====
section
/-! DEFINITION. The steps of the Gate Ring Port: RING_CELL_RECEIVED, RING_DOWN_TIMEOUT and OUTPUT_CELL_END
(08_the_gate_ring.md). -/

namespace Sys2Proof.Machine

/-- One of the seven ring counters changed (R151). -/
def State.countRing (s : State) (f : RingCounters → RingCounters) : State :=
  { s with grp := { s.grp with counters := f s.grp.counters } }

/-- Whole seconds of a span of milliseconds, rounded down and saturating at 65,535 (R109, R150). -/
def wholeSeconds (ms : Nat) : Nat := min Config.maxCounter (ms / 1000)

/-- The ring watch on a good cell: the 50 ms start afresh, and a ring that is DOWN comes UP with a RING_UP report
(R150). -/
def State.goodCell (s : State) : State :=
  let s1 : State := { s with grp := { s.grp with ringUp := true, lastGood := s.timebase } }
  if s.grp.ringUp then s1
  else s1.report (.ringUp (wholeSeconds (s.timebase - s.grp.downSince)) s.grp.counters.ringDowns)

/-- A management cell joins the command queue, or is dropped without a reply and counted (R164). -/
def Mgu.join (m : Mgu) (c : MgmtCell) : Mgu :=
  if m.queue.length < Config.commandPlaces then { m with queue := m.queue ++ [c] }
  else { m with commandDrops := bump m.commandDrops }

/-- A consumed cell handed on by its type (R145). -/
def State.consume (s : State) (cell : List Byte) : State :=
  match intakeOf (cellType cell) (cellPayload cell) with
  | some e => s.offerIntake e
  | none =>
    if cellType cell == verdictType then s.handVerdict (verdictOf (cellSource cell) (cellPayload cell))
    else if cellType cell == mgmtType then
      { s with mgu := s.mgu.join (mgmtOf (cellSource cell) (cellPayload cell)) }
    else s.countRing fun c => { c with strayCells := bump c.strayCells }

/-- A cell of this part returned undelivered, handled by its type (R146). -/
def State.returned (s : State) (cell : List Byte) : State :=
  match intakeOf (cellType cell) (cellPayload cell) with
  | some (.claim t k _ _ _ _) => s.claimReturned t k
  | some (.lateUse _ lane k kind time) => s.lateUseReturned lane k kind time
  | _ => s.countRing fun c => { c with returnedDrops := bump c.returnedDrops }

/-- A cell offered to the transit queue (R147). -/
def State.forward (s : State) (cell : List Byte) : State :=
  if s.grp.transit.length < Config.transitPlaces then
    { s with grp := { s.grp with transit := s.grp.transit ++ [forwarded cell] } }
  else s.countRing fun c => { c with transitOverruns := bump c.transitOverruns }

/-- A good cell handled by cases 2 to 6 of R144. -/
def State.handleCell (s : State) (cell : List Byte) : State :=
  if cellType cell == idleType then s
  else if cellDestination cell = s.grp.position then s.consume cell
  else if cellSource cell = s.grp.position then s.returned cell
  else if cellHops cell = 0 then s.countRing fun c => { c with hopExpiries := bump c.hopExpiries }
  else s.forward cell

/-- RING_CELL_RECEIVED: the check first, then the ring watch, then the other cases (R144, R150). What is no whole cell
of 64 bytes is not a cell and is not counted (section 8.2; log entry 26). -/
def execRingCellReceived (cell : List Byte) (s : State) : Host.Outcome State Fault Refusal :=
  whenRunning s fun s =>
    if cell.length ≠ 64 then s
    else if goodCheck cell then s.goodCell.handleCell cell
    else s.countRing fun c => { c with checkErrors := bump c.checkErrors }

/-- RING_DOWN_TIMEOUT: 50 ms without a good cell while UP. The ring goes DOWN, the counter rises, RING_DOWN is sent,
and every REMOTE claim becomes unreachable, in ascending lane order (R130, R150, R175; log entry 22). -/
def execRingDownTimeout (s : State) : Host.Outcome State Fault Refusal :=
  whenRunning s fun s =>
    if s.grp.ringUp then
      let s1 := s.reach (s.grp.lastGood + Config.ringSilence)
      let downs := bump s1.grp.counters.ringDowns
      let s2 : State :=
        { s1 with
          grp :=
            { s1.grp with
              ringUp := false
              downSince := s1.timebase
              counters := { s1.grp.counters with ringDowns := downs } } }
      laneNos.foldl State.unreachableIfRemote (s2.report (.ringDown downs))
    else s

/-- The output arbiter's choice: the bytes sent next, with the queues and the preference after it (R149). -/
def Grp.sendNext (g : Grp) : Grp :=
  match g.transit, g.localQueue with
  | t :: ts, c :: cs =>
    match g.prefer with
    | .transit => { g with transit := ts, prefer := .ownCells, sending := withCheck t }
    | .ownCells => { g with localQueue := cs, prefer := .transit, sending := c.wire g.position }
  | t :: ts, [] => { g with transit := ts, prefer := .ownCells, sending := withCheck t }
  | [], c :: cs => { g with localQueue := cs, prefer := .transit, sending := c.wire g.position }
  | [], [] => { g with sending := idleWire g.position }

/-- OUTPUT_CELL_END: the arbiter sends the next cell (R149). -/
def execOutputCellEnd (s : State) : Host.Outcome State Fault Refusal :=
  whenRunning s fun s => { s with grp := s.grp.sendNext }

end Sys2Proof.Machine
end

