-- ==== Sys2Proof/Machine/GateCommands.lean ====
section
/-! DEFINITION. The commands on the part as a whole: SET_CLOCK, SET_GATE, READ_GATE, EMERGENCY_CLEAR, GATE_CLEAR and
UNKNOWN_COMMAND; and CLOCK_SECOND (10_management_cells_and_reports.md; R109). -/

namespace Sys2Proof.Machine

/-- SET_CLOCK: the value carried, clamped to 1,048,575; the next whole second is counted from this moment (R167,
R168). -/
def State.setClock (s : State) (second : Nat) : Answer :=
  let stored := min second Config.maxSecond
  ⟨{ s with mgu := { s.mgu with clock := some stored, nextSecond := s.timebase + 1000 } },
    if second ≤ Config.maxSecond then .ok else .okClamped, .clock stored, []⟩

def execSetClock (s : State) : Host.Outcome State Fault Refusal :=
  whenRunning s fun s =>
    match s.mgu.queue with
    | ⟨src, req, .setClock second⟩ :: rest => s.execute ⟨src, req, .setClock second⟩ rest fun s => s.setClock second
    | _ => s

/-- The settings SET_GATE stores: the timeout lowered to a multiple of 10 ms, then both values clamped (R169). -/
def settingsOf (claimTimeout holdLimit : Nat) (mask : Byte) : Settings :=
  ⟨clamp 100 2000 (claimTimeout / 10 * 10), clamp 10 120 holdLimit, Mask.ofByte mask⟩

/-- SET_GATE: the three settings replaced together (R169). -/
def State.setGate (s : State) (claimTimeout holdLimit : Nat) (mask : Byte) : Answer :=
  let g := settingsOf claimTimeout holdLimit mask
  ⟨{ s with mgu := { s.mgu with settings := g } },
    if g.claimTimeout = claimTimeout ∧ g.holdLimit = holdLimit then .ok else .okClamped, .settings g, []⟩

def execSetGate (s : State) : Host.Outcome State Fault Refusal :=
  whenRunning s fun s =>
    match s.mgu.queue with
    | ⟨src, req, .setGate timeout limit mask⟩ :: rest =>
      s.execute ⟨src, req, .setGate timeout limit mask⟩ rest fun s => s.setGate timeout limit mask
    | _ => s

/-- The table status READ_GATE forms (R21). -/
def Adt.status (a : Adt) : TableStatus :=
  match a.phase, a.stream with
  | .sweeping, _ => .sweeping
  | .ready, none => .ready
  | .ready, some _ => .loading

/-- The remaining count READ_GATE returns with LOADING (R21). -/
def Adt.remaining (a : Adt) : Nat :=
  match a.phase, a.stream with
  | .ready, some st => st.remaining
  | _, _ => 0

/-- What READ_GATE returns, every value as its owner holds it (R170; log entry 14). -/
def State.gateReadout (s : State) : GateReadout where
  position := s.grp.position
  size := s.grp.size
  strapFault := s.grp.strapFault
  ringUp := s.grp.ringUp
  ringCounters := s.grp.counters
  transitFill := s.grp.transit.length
  localFill := s.grp.localQueue.length
  generalFill := s.grp.generalFill
  tableStatus := s.adt.status
  remaining := s.adt.remaining
  tableFill := s.adt.fill
  intakeFill := s.hdu.intake.length
  holdCount := s.holdCount
  noticeDrops := s.hdu.noticeDrops
  strayAbandons := s.hdu.strayAbandons
  trackerEntries := (laneNos.filter fun l => (s.place l).isSome).length
  logFill := s.clt.log.length
  lateVerdicts := s.clt.lateVerdicts
  unloggedExits := s.clt.unloggedExits
  logDrops := s.clt.logDrops
  emergencyLatched := s.tlu.latched
  emergencyInput := s.tlu.inputActive
  clock := s.mgu.clock
  settings := s.mgu.settings
  commandFill := s.mgu.queue.length
  commandDrops := s.mgu.commandDrops

/-- The counters READ_GATE clears with its flag (R171). -/
def State.clearCounters (s : State) : State :=
  { s with
    grp := { s.grp with counters := .zero }
    hdu := { s.hdu with noticeDrops := 0, strayAbandons := 0 }
    clt := { s.clt with lateVerdicts := 0, unloggedExits := 0, logDrops := 0 }
    mgu := { s.mgu with commandDrops := 0 } }

/-- READ_GATE (R170, R171). -/
def State.readGate (s : State) (clear : Bool) : Answer :=
  (if clear then s.clearCounters else s).accept (.gate s.gateReadout)

/-- A command taken in every condition of the part, STRAP_FAULT included (R155, R165, R170). -/
def State.executeAlways (s : State) (c : MgmtCell) (rest : List MgmtCell) (run : State → Answer) : State :=
  let a := run { s with mgu := { s.mgu with queue := rest } }
  a.reports.foldl State.report (a.state.reply c a.status a.data)

def execReadGate (s : State) : Host.Outcome State Fault Refusal :=
  whenRunning s fun s =>
    match s.mgu.queue with
    | ⟨src, req, .readGate clear⟩ :: rest => s.executeAlways ⟨src, req, .readGate clear⟩ rest fun s => s.readGate clear
    | _ => s

/-- EMERGENCY_CLEAR: ACTIVE while the input is active; else a SET latch is cleared, every lane is handed the clearing,
and EMERGENCY_CLEARED follows the reply (R109). -/
def State.emergencyClear (s : State) : Answer :=
  if s.tlu.inputActive then s.refuse .active
  else if s.tlu.latched then
    ⟨State.handAll { s with tlu := { s.tlu with latched := false } } .latchClearing, .ok, .nothing,
      [.emergencyCleared (wholeSeconds (s.timebase - s.tlu.setAt))]⟩
  else s.accept .nothing

def execEmergencyClear (s : State) : Host.Outcome State Fault Refusal :=
  whenRunning s fun s =>
    match s.mgu.queue with
    | ⟨src, req, .emergencyClear⟩ :: rest => s.execute ⟨src, req, .emergencyClear⟩ rest State.emergencyClear
    | _ => s

/-- GATE_CLEAR: every block reset as at power-on, the output going on; the reply is the first cell of the emptied queue,
and the EMERGENCY report of a latch set by the reset follows it (R172). -/
def execGateClear (pins : Pins) (s : State) : Host.Outcome State Fault Refusal :=
  whenRunning s fun s =>
    match s.mgu.queue with
    | ⟨src, req, .gateClear⟩ :: _ =>
      let s1 := s.resetBlocks pins
      (s1.reply ⟨src, req, .gateClear⟩ .ok (.straps s1.grp.position s1.grp.size s1.grp.strapFault)).reportReset pins
    | _ => s

/-- UNKNOWN_COMMAND: BAD_ARG with no data in every condition of the part, and nothing changes (R165). -/
def execUnknownCommand (s : State) : Host.Outcome State Fault Refusal :=
  whenRunning s fun s =>
    match s.mgu.queue with
    | ⟨src, req, .unknown code⟩ :: rest =>
      s.executeAlways ⟨src, req, .unknown code⟩ rest fun s => s.refuse .badArg
    | _ => s

/-- CLOCK_SECOND: a set clock rises by one at the whole second, staying at 1,048,575 (R167). -/
def execClockSecond (s : State) : Host.Outcome State Fault Refusal :=
  whenRunning s fun s =>
    match s.mgu.clock with
    | some t =>
      let s1 := s.reach s.mgu.nextSecond
      { s1 with
        mgu :=
          { s1.mgu with
            clock := some (if t < Config.maxSecond then t + 1 else t)
            nextSecond := s1.mgu.nextSecond + 1000 } }
    | none => s

end Sys2Proof.Machine
end

