-- ==== Sys2Proof/Machine/LaneSteps.lean ====
section
/-! DEFINITION. The steps in which a lane takes what waits for it: PRESENTATION, CLAIM_RESULT, ROTATION, PASS_EXPIRY,
CANCEL, LINK_LOSS, LINK_REGAINED, EMERGENCY_EVENT and LATCH_CLEARING (04_lane_operation.md). -/

namespace Sys2Proof.Machine

/-- The lane takes its next event when that event is the one the row names; otherwise the row is not due (log
entry 2). -/
def State.takeIf (s : State) (l : LaneNo) (named : LaneEvent → Bool) (act : State → LaneEvent → State) : State :=
  match s.nextEvent l with
  | some e => if named e then act (s.eventTaken l) e else s
  | none => s

/-! ### PRESENTATION -/

/-- Whether a presentation is an echo (R77). -/
def Lane.isEcho (ln : Lane) (k : Key) (time : Nat) : Bool :=
  match ln.echo with
  | some e => ln.config.echoWindow != 0 && e.key == k && e.time ≤ time && time - e.time ≤ ln.config.echoWindow
  | none => false

/-- Whether a presentation is stale: its age in tenths exceeds the stale limit (R75). -/
def Lane.isStale (ln : Lane) (age : Nat) : Bool := ln.config.staleLimit * 10 < age

/-- The lane issues its claim and enters VALIDATING, and the claim is handed to the Claim Tracker (R79, R125). -/
def State.issueClaim (s : State) (l : LaneNo) (k : Key) (time : Nat) : State :=
  let ln := s.lane l
  let c := ln.config
  let tag : Tag := ⟨s.grp.position, l, ln.seq⟩
  let s1 := (s.modLane l fun ln => { ln with current := some ⟨k, time⟩, seq := (ln.seq + 1) % 256 }).enter l .validating
  s1.trackClaim l ⟨ln.seq, k, c.direction, k.home s.grp.size, time, .remote, none⟩
    (.claim tag k c.direction time c.zone c.classes)

/-- The reservation of an ENTRY lane and then the claim; a refused reservation is answered ZONE_FULL (R78, R79). -/
def State.reserveAndClaim (s : State) (l : LaneNo) (k : Key) (time : Nat) : State :=
  if (s.lane l).config.direction = .exit then s.issueClaim l k time
  else
    let s1 := s.serveZoneAll l
    if (s1.zone (s1.lane l).config.zone).hasRoom then (s1.reserve l).issueClaim l k time
    else ((s1.dispose l .zoneFull 0 (some k)).indicate l .refuse).countRefused l

/-- The echo check, behind a key formed: an echo is discarded silently, any other presentation moves the echo record
(R77). -/
def State.echoCheck (s : State) (l : LaneNo) (k : Key) (time : Nat) : State :=
  if (s.lane l).isEcho k time then s
  else (s.modLane l fun ln => { ln with echo := some ⟨k, time⟩ }).reserveAndClaim l k time

/-- A presentation taken in IDLE: the checks stale, format, echo, reservation, then the claim (R73 to R79). -/
def State.processPresentation (s : State) (l : LaneNo) (p : Presentation) : State :=
  let s1 := s.second.2
  let time := s.second.1
  if (s1.lane l).isStale p.age then ((s1.dispose l .tryAgain 0 none).indicate l .retry).countRefused l
  else
    match formKey p.medium p.length p.payload with
    | none => ((s1.dispose l .rescan 0 none).indicate l .retry).countRefused l
    | some k => s1.echoCheck l k time

/-- A presentation taken, by the state it finds the lane in (R73, R74). -/
def State.takePresentation (s : State) (l : LaneNo) (p : Presentation) : State :=
  match (s.lane l).state with
  | .idle => s.processPresentation l p
  | .closed => s.dispose l .laneClosed 0 none
  | .released => s.dispose l .emergency 0 none
  | .validating => s
  | .awaitPass => s
  | .fault => s

/-- PRESENTATION: the presentation at the head of what waits for the lane is taken, and cell in hand is no (R73, R74,
R118). A presentation overtakes nothing. -/
def execPresentation (lane : LaneNo) (s : State) : Host.Outcome State Fault Refusal :=
  whenRunning s fun s =>
    match (s.lane lane).events with
    | .presentation p :: rest =>
      ((s.modLane lane fun ln => { ln with events := rest }).modHead lane
        fun h => { h with inHand := false }).takePresentation lane p
    | _ => s

/-! ### CLAIM_RESULT -/

/-- The key of the current presentation. -/
def Lane.currentKey (ln : Lane) : Option Key := ln.current.map (·.key)

/-- A result that refuses on an ENTRY lane: the disposition, the reservation released, the refused counter, and the
lane settled with an indication (R81). -/
def State.refuseResult (s : State) (l : LaneNo) (m : Message) (argument : Nat) (i : Indication) : State :=
  ((((s.dispose l m argument (s.lane l).currentKey).releasePlace l).countRefused l).clearPresentation l).settle l i

/-- A result that begins a passage: the disposition and the passage (R81, R82, R84). -/
def State.grantResult (s : State) (l : LaneNo) (m : Message) (argument : Nat) (p : Passage) (i : Indication) : State :=
  (s.dispose l m argument (s.lane l).currentKey).beginPassage l p i

/-- The tag of the lane's claim: the sequence number before the one it holds now (R79). -/
def State.claimTag (s : State) (l : LaneNo) : Tag := ⟨s.grp.position, l, ((s.lane l).seq + 255) % 256⟩

/-- The indications a settling result may show, and the messages and indications a passage may begin with. -/
def settleIndications : List Indication := [.refuse, .retry, .dark]
def exitIndications : List Indication := [.grant, .provisional]

/-- One of some indications, picked by a free value. -/
def State.freeIndication (s : State) (from_ : List Indication) : Indication :=
  from_.getD (s.free from_.length) .dark

/-- An ENTRY lane's result (R81). The home decides an ENTRY claim by the ENTRY checks, so EXIT_OK and EXIT_UNMATCHED do
not reach it from one that follows R44; a VERDICT cell that carries one settles the lane as every other result does,
with an indication the table does not give (log entry 12). -/
def State.entryResult (s : State) (l : LaneNo) (r : Result) : State :=
  match r with
  | .verdict v argument =>
    match v with
    | .admitFresh => s.grantResult l (.ofVerdict .admitFresh) argument ⟨.granted, some (s.claimTag l), none⟩ .grant
    | .admitReentry =>
      s.grantResult l (.ofVerdict .admitReentry) argument ⟨.granted, some (s.claimTag l), none⟩ .grant
    | .homeBusy => s.refuseResult l (.ofVerdict .homeBusy) argument .retry
    | .unknown | .void | .wrongLane | .wrongZone | .tooLate | .inProgress | .alreadyIn | .noReentry | .tooEarly
    | .cooldown => s.refuseResult l (.ofVerdict v) argument .refuse
    | .exitOk | .exitUnmatched =>
      s.freeUsed.refuseResult l (.ofVerdict v) argument (s.freeIndication settleIndications)
  | .provisionalAdmit rec => s.grantResult l .provisionalAdmit 0 ⟨.provisional, none, some rec⟩ .provisional
  | .unreachable _ => s.refuseResult l .seeStaff 0 .refuse
  | .provisionalLimit => s.refuseResult l .provisionalLimit 0 .refuse
  | .logFull => s.refuseResult l .logFull 0 .refuse

/-- The messages of R82's table, one of which a result outside it shows. -/
def exitMessages : List Message := [.ofVerdict .exitOk, .ofVerdict .exitUnmatched, .exitUnchecked]

/-- A result outside R82's table: an EXIT lane begins a passage for every result, and carries no tag, since no exit
hold was granted; the message and the indication are free values (R82; log entry 12). -/
def State.unlistedExit (s : State) (l : LaneNo) (argument : Nat) : State :=
  let m := exitMessages.getD (s.free exitMessages.length) .exitUnchecked
  let s1 := s.freeUsed
  s1.freeUsed.grantResult l m argument ⟨.unchecked, none, none⟩ (s1.freeIndication exitIndications)

/-- An EXIT lane's result: every one begins a passage (R82). -/
def State.exitResult (s : State) (l : LaneNo) (r : Result) : State :=
  match r with
  | .verdict v argument =>
    match v with
    | .exitOk => s.grantResult l (.ofVerdict .exitOk) argument ⟨.granted, some (s.claimTag l), none⟩ .grant
    | .exitUnmatched => s.grantResult l (.ofVerdict .exitUnmatched) argument ⟨.unchecked, none, none⟩ .grant
    | .inProgress | .homeBusy => s.grantResult l .exitUnchecked argument ⟨.unchecked, none, none⟩ .grant
    | .unknown | .void | .wrongLane | .wrongZone | .tooEarly | .tooLate | .alreadyIn | .noReentry | .cooldown | .admitFresh
    | .admitReentry => s.unlistedExit l argument
  | .unreachable none => s.grantResult l .exitUnchecked 0 ⟨.unchecked, none, none⟩ .grant
  | .unreachable (some rec) => s.grantResult l .exitUnchecked 0 ⟨.provisional, none, some rec⟩ .provisional
  | .provisionalAdmit _ | .provisionalLimit | .logFull => s.unlistedExit l 0

/-- A result taken: ignored outside VALIDATING, else by the lane's direction (R72, R80 to R82, R132). -/
def State.takeResult (s : State) (l : LaneNo) (r : Result) : State :=
  if (s.lane l).state ≠ .validating then s
  else
    match (s.lane l).config.direction with
    | .entry => s.entryResult l r
    | .exit => s.exitResult l r

def LaneEvent.isResult : LaneEvent → Bool
  | .result _ => true
  | _ => false

/-- CLAIM_RESULT: the lane takes the result of its claim (R80 to R82). -/
def execClaimResult (lane : LaneNo) (s : State) : Host.Outcome State Fault Refusal :=
  whenRunning s fun s =>
    s.takeIf lane LaneEvent.isResult fun s e =>
      match e with
      | .result r => s.takeResult lane r
      | _ => s

/-! ### ROTATION -/

/-- The counter a passage's origin adds to (R85). -/
def LaneCounters.passed (c : LaneCounters) : Origin → LaneCounters
  | .granted => { c with admitted := bump c.admitted }
  | .unchecked => { c with admitted := bump c.admitted }
  | .provisional => { c with provisional := bump c.provisional }
  | .manual => { c with manual := bump c.manual }

/-- The PASSED notice of a GRANTED passage (R85, step 1). -/
def State.sendPassed (s : State) (l : LaneNo) (p : Passage) (time : Nat) : State :=
  match p.origin, p.tag, (s.lane l).currentKey with
  | .granted, some t, some k => s.sendNotice (.passed t k (s.lane l).config.direction time) k
  | _, _, _ => s

/-- The provisional record of a PROVISIONAL passage made DONE (R85, step 2; R137). -/
def State.completeRecord (s : State) (l : LaneNo) (p : Passage) (time : Nat) : State :=
  if p.origin = .provisional then s.setLog (markDone l time s.clt.log) else s

/-- The report of a passage (R85, step 5; R174). -/
def State.reportPassage (s : State) (l : LaneNo) (p : Passage) (time : Nat) : State :=
  let ln := s.lane l
  match p.origin with
  | .provisional =>
    match ln.currentKey with
    | some k => s.report (.provisional l ln.config.direction ln.config.zone k time)
    | none => s
  | .granted | .unchecked | .manual =>
    s.report (.passage l ln.config.direction ln.config.zone p.origin ln.currentKey p.tag time)

/-- The passage has happened: the six steps of R85, in their order. -/
def State.completePassage (s : State) (l : LaneNo) (p : Passage) : State :=
  let time := s.second.1
  let s1 := (s.second.2.sendPassed l p time).completeRecord l p time
  let s2 := s1.askZone l (if (s.lane l).config.direction = .entry then .convert else .exit)
  let s3 := (s2.count l fun c => c.passed p.origin).reportPassage l p time
  ((s3.clearPresentation l).lockArm l).settle l .dark

/-- A rotation taken, by the state it finds the lane in (R85, R88, R99). -/
def State.takeRotation (s : State) (l : LaneNo) (latched : Bool) : State :=
  match (s.lane l).state with
  | .awaitPass =>
    if latched then
      match (s.lane l).passage with
      | some p => s.completePassage l p
      | none => s.forced l
    else s.forced l
  | .released => s.count l fun c => { c with free := bump c.free }
  | .idle | .closed | .validating | .fault => s.forced l

def LaneEvent.isRotation : LaneEvent → Bool
  | .rotation _ => true
  | _ => false

/-- ROTATION: the lane takes a rotation (R85, R88, R99). -/
def execRotation (lane : LaneNo) (s : State) : Host.Outcome State Fault Refusal :=
  whenRunning s fun s =>
    s.takeIf lane LaneEvent.isRotation fun s e =>
      match e with
      | .rotation latched => s.takeRotation lane latched
      | _ => s

/-! ### PASS_EXPIRY and CANCEL -/

/-- The expiry ends a passage that has not happened; elsewhere it is ignored (R72, R86). -/
def State.takeExpiry (s : State) (l : LaneNo) : State :=
  if (s.lane l).state = .awaitPass then
    (((s.abandonPassage l).clearPresentation l).lockArm l).settle l .dark
  else s

/-- PASS_EXPIRY: the lane takes the expiry of its pass timer (R86). -/
def execPassExpiry (lane : LaneNo) (s : State) : Host.Outcome State Fault Refusal :=
  whenRunning s fun s => s.takeIf lane (· == .passExpiry) fun s _ => s.takeExpiry lane

/-- The cancel ends the presentation in hand and sends CANCELLED; elsewhere it is ignored (R72, R87). -/
def State.takeCancel (s : State) (l : LaneNo) : State :=
  let finish (s1 : State) : State :=
    ((s1.dispose l .cancelled 0 (s.lane l).currentKey).clearPresentation l).settle l .dark
  match (s.lane l).state with
  | .validating => finish ((s.disown l).releasePlace l)
  | .awaitPass => finish ((s.abandonPassage l).lockArm l)
  | .idle | .closed | .fault | .released => s

/-- CANCEL: the lane takes the cancel event, and the cancel latch is EMPTY (R87, R102). -/
def execCancel (lane : LaneNo) (s : State) : Host.Outcome State Fault Refusal :=
  whenRunning s fun s =>
    s.takeIf lane (· == .cancel) fun s _ =>
      (s.modLine lane fun ln => { ln with cancelSet := false }).takeCancel lane

/-! ### Link and emergency -/

/-- A link loss: work in flight ended, the arm locked, FAULT entered and reported; ignored in FAULT and RELEASED
(R72, R94). -/
def State.takeLinkLoss (s : State) (l : LaneNo) : State :=
  match (s.lane l).state with
  | .fault | .released => s
  | .closed | .idle | .validating | .awaitPass =>
    ((((s.endWork l).lockArm l).enter l .fault).indicate l .dark).report (.fault l (s.lane l).state)

/-- LINK_LOSS: the lane takes a link loss (R94). -/
def execLinkLoss (lane : LaneNo) (s : State) : Host.Outcome State Fault Refusal :=
  whenRunning s fun s => s.takeIf lane (· == .linkLoss) fun s _ => s.takeLinkLoss lane

/-- Link regained: a lane in FAULT settles and reports it; ignored elsewhere (R72, R94). -/
def State.takeLinkRegained (s : State) (l : LaneNo) : State :=
  if (s.lane l).state = .fault then (s.settle l .dark).report (.recovered l (s.lane l).settled) else s

/-- LINK_REGAINED: the lane takes link regained (R94). -/
def execLinkRegained (lane : LaneNo) (s : State) : Host.Outcome State Fault Refusal :=
  whenRunning s fun s => s.takeIf lane (· == .linkRegained) fun s _ => s.takeLinkRegained lane

/-- The emergency event: work in flight ended, the arm freed, RELEASED entered (R95, R106). -/
def State.takeEmergency (s : State) (l : LaneNo) : State :=
  (((s.endWork l).releaseArm l).enter l .released).indicate l .released

/-- EMERGENCY_EVENT: the lane takes the emergency event (R95, R106). -/
def execEmergencyEvent (lane : LaneNo) (s : State) : Host.Outcome State Fault Refusal :=
  whenRunning s fun s => s.takeIf lane (· == .emergency) fun s _ => s.takeEmergency lane

/-- The clearing: a lane in RELEASED locks its arm and settles (R95, R109). -/
def State.takeClearing (s : State) (l : LaneNo) : State :=
  if (s.lane l).state = .released then (s.lockArm l).settle l .dark else s

/-- LATCH_CLEARING: the lane takes the clearing event (R95, R109). -/
def execLatchClearing (lane : LaneNo) (s : State) : Host.Outcome State Fault Refusal :=
  whenRunning s fun s => s.takeIf lane (· == .latchClearing) fun s _ => s.takeClearing lane

end Sys2Proof.Machine
end

