-- ==== Sys2Proof/Machine/LinesSteps.lean ====
section
/-! DEFINITION. The steps of the Turnstile Line Unit (05_turnstile_lines.md). -/

namespace Sys2Proof.Machine

/-- ROTATION_EDGE: the sensor level becomes ACTIVE and the lane is handed a rotation, latched from an ARMED latch and
unlatched otherwise (R98, R99). -/
def execRotationEdge (lane : LaneNo) (s : State) : Host.Outcome State Fault Refusal :=
  whenRunning s fun s =>
    let ln := s.line lane
    if ln.sensorActive then s
    else
      let armed := ln.latch == .armed
      (s.modLine lane fun ln =>
        { ln with sensorActive := true, latch := if armed then .captured else ln.latch }).hand lane (.rotation armed)

/-- SENSOR_LEVEL_INACTIVE: the sensor level becomes INACTIVE, without an event (R98). -/
def execSensorLevelInactive (lane : LaneNo) (s : State) : Host.Outcome State Fault Refusal :=
  whenRunning s fun s => s.modLine lane fun ln => { ln with sensorActive := false }

/-- PASS_TIMER_EXPIRED: a running window has run out; the timer stops and the lane is handed an expiry (R101). R101
has the window measured to within 10 ms; the model ends it at the exact millisecond of the timebase (DESIGN CHOICE, log
entry 25). -/
def execPassTimerExpired (lane : LaneNo) (s : State) : Host.Outcome State Fault Refusal :=
  whenRunning s fun s =>
    match (s.line lane).passTimer with
    | some d => ((s.reach d).modLine lane fun ln => { ln with passTimer := none }).hand lane .passExpiry
    | none => s

/-- CANCEL_PRESS: a recognised press; an EMPTY latch that accepts presses is SET and the lane is handed a cancel
(R102). -/
def execCancelPress (lane : LaneNo) (s : State) : Host.Outcome State Fault Refusal :=
  whenRunning s fun s =>
    let ln := s.line lane
    if ln.buttonPressed then s
    else
      let s1 := s.modLine lane fun ln => { ln with buttonPressed := true }
      if (s.lane lane).state.takesCancel && !ln.cancelSet then
        (s1.modLine lane fun ln => { ln with cancelSet := true }).hand lane .cancel
      else s1

/-- BUTTON_RELEASED: the button level becomes released (R102). -/
def execButtonReleased (lane : LaneNo) (s : State) : Host.Outcome State Fault Refusal :=
  whenRunning s fun s => s.modLine lane fun ln => { ln with buttonPressed := false }

/-- EMERGENCY_EDGE: the input level becomes ACTIVE; a CLEAR latch is SET, every lane is handed an emergency event and
EMERGENCY is sent with cause EDGE (R105, R106). -/
def execEmergencyEdge (s : State) : Host.Outcome State Fault Refusal :=
  whenRunning s fun s =>
    if s.tlu.inputActive then s
    else
      let s1 : State := { s with tlu := { s.tlu with inputActive := true } }
      if s.tlu.latched then s1
      else
        (State.handAll { s1 with tlu := { s1.tlu with latched := true, setAt := s.timebase } } .emergency).report
          (.emergency .edge)

/-- EMERGENCY_INPUT_INACTIVE: the input level becomes INACTIVE; the latch stays as it is (R105). -/
def execEmergencyInputInactive (s : State) : Host.Outcome State Fault Refusal :=
  whenRunning s fun s => { s with tlu := { s.tlu with inputActive := false } }

/-- The indications that end by themselves (R103). -/
def Indication.timed : Indication → Bool
  | .refuse => true
  | .retry => true
  | _ => false

/-- INDICATION_TIMEOUT: a REFUSE or RETRY that has lasted 2 s becomes DARK; the lane is not told (R103). -/
def execIndicationTimeout (lane : LaneNo) (s : State) : Host.Outcome State Fault Refusal :=
  whenRunning s fun s =>
    let ln := s.line lane
    if ln.indication.timed then (s.reach (ln.shownSince + Config.indicationSpan)).indicate lane .dark else s

end Sys2Proof.Machine
end

