-- ==== Sys2Proof/Machine/TableCommands.lean ====
section
/-! DEFINITION. The table commands and SWEEP_COMPLETE (02_the_admission_table.md). -/

namespace Sys2Proof.Machine

/-- SWEEP_COMPLETE: every slot is empty, and the table is READY; a READY table stays as it is (R19). -/
def execSweepComplete (s : State) : Host.Outcome State Fault Refusal :=
  whenRunning s fun s =>
    if s.adt.phase = .sweeping then { s with adt := { s.adt with phase := .ready, table := [] } } else s

/-- PUT_RECORD: BUSY while sweeping, else validated and upserted (R20, R22, R23). -/
def State.putRecord (s : State) (im : Image) : Answer :=
  if s.adt.phase = .sweeping then { s.refuse .busy with data := .put .refused }
  else
    let u := s.adt.upsert s.grp.position s.grp.size im
    ⟨{ s with adt := u.adt }, u.status, .put u.outcome, []⟩

def execPutRecord (s : State) : Host.Outcome State Fault Refusal :=
  whenRunning s fun s =>
    match s.mgu.queue with
    | ⟨src, req, .putRecord im⟩ :: rest => s.execute ⟨src, req, .putRecord im⟩ rest fun s => s.putRecord im
    | _ => s

/-- LOAD_OPEN: BUSY, STREAM_OPEN, or a stream with remaining count c + 1 (R32). -/
def State.loadOpen (s : State) (count : Nat) : Answer :=
  if s.adt.phase = .sweeping then s.refuse .busy
  else
    match s.adt.stream with
    | some _ => s.refuse .streamOpen
    | none =>
      State.accept { s with adt := { s.adt with stream := some ⟨count + 1, 0, 0, 0, none⟩ } } (.opened (count + 1))

def execLoadOpen (s : State) : Host.Outcome State Fault Refusal :=
  whenRunning s fun s =>
    match s.mgu.queue with
    | ⟨src, req, .loadOpen count⟩ :: rest => s.execute ⟨src, req, .loadOpen count⟩ rest fun s => s.loadOpen count
    | _ => s

/-- One record of a load stream: the table and stream after it, and its status (R33). -/
structure Loaded where
  adt : Adt
  stream : Stream
  status : Status
  deriving DecidableEq, Repr

/-- One record handled against an open stream: upserted and counted while the remaining count is above 0, excess
otherwise (R33). -/
def Adt.loadOne (a : Adt) (position size : Nat) (st : Stream) (im : Image) : Loaded :=
  if 0 < st.remaining then
    let u := a.upsert position size im
    let st1 := { st with remaining := st.remaining - 1 }
    if u.status = .ok then ⟨u.adt, { st1 with taken := st1.taken + 1 }, .ok⟩
    else
      ⟨u.adt,
        { st1 with
          rejected := st1.rejected + 1
          firstRejection := st1.firstRejection.orElse fun _ => some (u.status, im.key) },
        u.status⟩
  else ⟨a, { st with excess := st.excess + 1 }, .noStream⟩

/-- The LOAD_DONE report of a stream (R34, R36). -/
def Stream.doneReport (st : Stream) (aborted : Bool) : Report :=
  .loadDone st.taken st.rejected st.excess st.firstRejection aborted

/-- Why a LOAD_RECORDS cell is refused, in the order of R35; none when it is taken. -/
def State.loadRefusal (s : State) (count : Nat) : Option Status :=
  if s.adt.phase = .sweeping then some .busy
  else if s.adt.stream.isNone then some .noStream
  else if count = 0 ∨ 2 < count then some .badArg
  else none

/-- One record access of a LOAD_RECORDS cell on this part's table and stream: the state after it and the record's
status. -/
def State.loadRecord (s : State) (im : Image) : State × Status :=
  match s.adt.stream with
  | some st =>
    let x := s.adt.loadOne s.grp.position s.grp.size st im
    ({ s with adt := { x.adt with stream := some x.stream } }, x.status)
  | none => (s, .noStream)

/-- The cell handled whole: its reply, and the stream closed with LOAD_DONE when its remaining count is 0 (R33, R34). -/
def State.loadFinished (s : State) (first : Status) (second : Option Status) : Answer :=
  match s.adt.stream with
  | some st =>
    if st.remaining = 0 then
      ⟨{ s with adt := { s.adt with stream := none } }, .ok, .loaded first second 0, [st.doneReport false]⟩
    else s.accept (.loaded first second st.remaining)
  | none => s.refuse .noStream

/-- The records of a LOAD_RECORDS cell that are still to be taken: both, or the second when the first has been taken
by an access of its own (R33; log entry 13). -/
def State.loadRecords (s : State) (count : Nat) (first second : Image) : Answer :=
  match s.loadRefusal count with
  | some st => s.refuse st
  | none =>
    let r1 : State × Status :=
      match s.mgu.firstLoaded with
      | some st1 => ({ s with mgu := { s.mgu with firstLoaded := none } }, st1)
      | none => s.loadRecord first
    if count = 2 then
      let r2 := r1.1.loadRecord second
      r2.1.loadFinished r1.2 (some r2.2)
    else r1.1.loadFinished r1.2 none

/-- The access of the first record of a two-record cell alone; the cell stays at the head of the command queue
(R18, R37). -/
def State.loadFirstAlone (s : State) (first : Image) : State :=
  let r := s.loadRecord first
  { r.1 with mgu := { r.1.mgu with firstLoaded := some r.2 } }

/-- Whether a LOAD_RECORDS step takes the access of the first record alone. -/
def State.loadsFirstAlone (s : State) (access : LoadAccess) (count : Nat) : Bool :=
  access == .oneRecord && count == 2 && s.mgu.firstLoaded.isNone && (s.loadRefusal count).isNone &&
    !s.grp.strapFault

def execLoadRecords (access : LoadAccess) (s : State) : Host.Outcome State Fault Refusal :=
  whenRunning s fun s =>
    match s.mgu.queue with
    | ⟨src, req, .loadRecords count first second⟩ :: rest =>
      if s.loadsFirstAlone access count then s.loadFirstAlone first
      else
        s.execute ⟨src, req, .loadRecords count first second⟩ rest fun s => s.loadRecords count first second
    | _ => s

/-- LOAD_ABORT: BUSY, NO_STREAM, or the stream closed with a LOAD_DONE report (R36). -/
def State.loadAbort (s : State) : Answer :=
  if s.adt.phase = .sweeping then s.refuse .busy
  else
    match s.adt.stream with
    | some st => ⟨{ s with adt := { s.adt with stream := none } }, .ok, .nothing, [st.doneReport true]⟩
    | none => s.refuse .noStream

def execLoadAbort (s : State) : Host.Outcome State Fault Refusal :=
  whenRunning s fun s =>
    match s.mgu.queue with
    | ⟨src, req, .loadAbort⟩ :: rest => s.execute ⟨src, req, .loadAbort⟩ rest State.loadAbort
    | _ => s

/-- The tests of R25 in their order, and the command's own effect on the record found. -/
def State.onKey (s : State) (k : Key) (run : Nat → Record → Answer) : Answer :=
  if s.adt.phase = .sweeping then s.refuse .busy
  else if !k.formed then s.refuse .badArg
  else if k.home s.grp.size ≠ s.grp.position then s.refuse .wrongHome
  else
    match s.lookup k with
    | none => s.refuse .notFound
    | some p =>
      match s.recordAt p with
      | none => s.refuse .notFound
      | some r => run p r

/-- VOID_KEY sets the revoked flag of the record found (R26). -/
def State.voidKey (s : State) (k : Key) : Answer :=
  s.onKey k fun p r => (s.writeRecord p { r with revoked := true }).accept .nothing

def execVoidKey (s : State) : Host.Outcome State Fault Refusal :=
  whenRunning s fun s =>
    match s.mgu.queue with
    | ⟨src, req, .voidKey k⟩ :: rest => s.execute ⟨src, req, .voidKey k⟩ rest fun s => s.voidKey k
    | _ => s

/-- RESTORE_KEY clears the revoked flag of the record found (R27). -/
def State.restoreKey (s : State) (k : Key) : Answer :=
  s.onKey k fun p r => (s.writeRecord p { r with revoked := false }).accept .nothing

def execRestoreKey (s : State) : Host.Outcome State Fault Refusal :=
  whenRunning s fun s =>
    match s.mgu.queue with
    | ⟨src, req, .restoreKey k⟩ :: rest => s.execute ⟨src, req, .restoreKey k⟩ rest fun s => s.restoreKey k
    | _ => s

/-- DROP_KEY empties the slot of the record found, unless it is held (R28). -/
def State.dropKey (s : State) (k : Key) : Answer :=
  s.onKey k fun p r =>
    if r.hold.isSome then s.refuse .inProgress
    else
      State.accept { s with adt := { s.adt with table := s.adt.table.erase p, fill := s.adt.fill - 1 } } .nothing

def execDropKey (s : State) : Host.Outcome State Fault Refusal :=
  whenRunning s fun s =>
    match s.mgu.queue with
    | ⟨src, req, .dropKey k⟩ :: rest => s.execute ⟨src, req, .dropKey k⟩ rest fun s => s.dropKey k
    | _ => s

/-- QUERY_KEY returns the record found, whole (R30). -/
def State.queryKey (s : State) (k : Key) : Answer := s.onKey k fun _ r => s.accept (.record r)

def execQueryKey (s : State) : Host.Outcome State Fault Refusal :=
  whenRunning s fun s =>
    match s.mgu.queue with
    | ⟨src, req, .queryKey k⟩ :: rest => s.execute ⟨src, req, .queryKey k⟩ rest fun s => s.queryKey k
    | _ => s

end Sys2Proof.Machine
end

