-- ==== Sys2Proof/Machine/Zones.lean ====
section
/-! DEFINITION. The zone commands and the requests the Zone Counter Unit takes (09_zone_counts.md). -/

namespace Sys2Proof.Machine

/-- A command that names a zone: BAD_ARG for a number above 7, else the zone (R161, R163). -/
def State.onZone (s : State) (zone : Nat) (run : ZoneNo → Answer) : Answer :=
  if h : zone < 8 then run ⟨zone, h⟩ else s.refuse .badArg

/-- SET_ZONE: the quota replaced, nothing else (R161, R162). -/
def State.setZone (s : State) (zone quota : Nat) : Answer :=
  s.onZone zone fun z => (s.modZone z fun r => { r with quota := quota }).accept (.quota quota)

def execSetZone (s : State) : Host.Outcome State Fault Refusal :=
  whenRunning s fun s =>
    match s.mgu.queue with
    | ⟨src, req, .setZone zone quota⟩ :: rest =>
      s.execute ⟨src, req, .setZone zone quota⟩ rest fun s => s.setZone zone quota
    | _ => s

/-- READ_ZONE: the four values as they stand; the clear flag sets underflow to 0 (R163). -/
def State.readZone (s : State) (zone : Nat) (clear : Bool) : Answer :=
  s.onZone zone fun z =>
    let s1 := if clear then s.modZone z fun r => { r with underflow := 0 } else s
    s1.accept (.zone (s.zone z))

def execReadZone (s : State) : Host.Outcome State Fault Refusal :=
  whenRunning s fun s =>
    match s.mgu.queue with
    | ⟨src, req, .readZone zone clear⟩ :: rest =>
      s.execute ⟨src, req, .readZone zone clear⟩ rest fun s => s.readZone zone clear
    | _ => s

/-- The ZCU takes the oldest waiting request of a lane, when that is what the row names (R157). -/
def State.serveZoneIf (s : State) (l : LaneNo) (ask : ZoneAsk) : State :=
  match s.zoneRequest l with
  | some r => if r.ask = ask then s.serveZone l else s
  | none => s

/-- ZONE_CONVERT: reserved falls by one and count rises by one, saturating (R158). -/
def execZoneConvert (lane : LaneNo) (s : State) : Host.Outcome State Fault Refusal :=
  whenRunning s fun s => s.serveZoneIf lane .convert

/-- ZONE_RELEASE: reserved falls by one (R159). -/
def execZoneRelease (lane : LaneNo) (s : State) : Host.Outcome State Fault Refusal :=
  whenRunning s fun s => s.serveZoneIf lane .release

/-- ZONE_EXIT: count falls by one, or underflow rises when count is 0 (R160). -/
def execZoneExit (lane : LaneNo) (s : State) : Host.Outcome State Fault Refusal :=
  whenRunning s fun s => s.serveZoneIf lane .exit

end Sys2Proof.Machine
end

