-- ==== Sys2Proof/Machine/Dispatch.lean ====
section
/-! DEFINITION. One arm per command, in the order of spec/opcode_table.json: each calls its meaning. -/

namespace Sys2Proof.Machine

def exec (i : Instr) (s : State) : Host.Outcome State Fault Refusal :=
  match i with
  | .powerOn pins => Sys2Proof.Machine.execPowerOn pins s
  | .sweepComplete => Sys2Proof.Machine.execSweepComplete s
  | .putRecord => Sys2Proof.Machine.execPutRecord s
  | .loadOpen => Sys2Proof.Machine.execLoadOpen s
  | .loadRecords access => Sys2Proof.Machine.execLoadRecords access s
  | .loadAbort => Sys2Proof.Machine.execLoadAbort s
  | .voidKey => Sys2Proof.Machine.execVoidKey s
  | .restoreKey => Sys2Proof.Machine.execRestoreKey s
  | .dropKey => Sys2Proof.Machine.execDropKey s
  | .queryKey => Sys2Proof.Machine.execQueryKey s
  | .setLane => Sys2Proof.Machine.execSetLane s
  | .laneOpen => Sys2Proof.Machine.execLaneOpen s
  | .laneClose => Sys2Proof.Machine.execLaneClose s
  | .laneReset => Sys2Proof.Machine.execLaneReset s
  | .laneRelease => Sys2Proof.Machine.execLaneRelease s
  | .readLane => Sys2Proof.Machine.execReadLane s
  | .setZone => Sys2Proof.Machine.execSetZone s
  | .readZone => Sys2Proof.Machine.execReadZone s
  | .setClock => Sys2Proof.Machine.execSetClock s
  | .setGate => Sys2Proof.Machine.execSetGate s
  | .readGate => Sys2Proof.Machine.execReadGate s
  | .emergencyClear => Sys2Proof.Machine.execEmergencyClear s
  | .gateClear pins => Sys2Proof.Machine.execGateClear pins s
  | .unknownCommand => Sys2Proof.Machine.execUnknownCommand s
  | .ringCellReceived cell => Sys2Proof.Machine.execRingCellReceived cell s
  | .ringDownTimeout => Sys2Proof.Machine.execRingDownTimeout s
  | .outputCellEnd => Sys2Proof.Machine.execOutputCellEnd s
  | .claim => Sys2Proof.Machine.execClaim s
  | .passed => Sys2Proof.Machine.execPassed s
  | .abandon => Sys2Proof.Machine.execAbandon s
  | .lateUse => Sys2Proof.Machine.execLateUse s
  | .holdDeadline index => Sys2Proof.Machine.execHoldDeadline index s
  | .verdict => Sys2Proof.Machine.execVerdict s
  | .claimTimeout lane => Sys2Proof.Machine.execClaimTimeout lane s
  | .drainLateUse => Sys2Proof.Machine.execDrainLateUse s
  | .poll moment => Sys2Proof.Machine.execPoll moment s
  | .linkRegained lane => Sys2Proof.Machine.execLinkRegained lane s
  | .fetch moment => Sys2Proof.Machine.execFetch moment s
  | .delivery moment => Sys2Proof.Machine.execDelivery moment s
  | .miss => Sys2Proof.Machine.execMiss s
  | .linkLoss lane => Sys2Proof.Machine.execLinkLoss lane s
  | .presentation lane => Sys2Proof.Machine.execPresentation lane s
  | .claimResult lane => Sys2Proof.Machine.execClaimResult lane s
  | .rotationEdge lane => Sys2Proof.Machine.execRotationEdge lane s
  | .rotation lane => Sys2Proof.Machine.execRotation lane s
  | .passTimerExpired lane => Sys2Proof.Machine.execPassTimerExpired lane s
  | .passExpiry lane => Sys2Proof.Machine.execPassExpiry lane s
  | .cancelPress lane => Sys2Proof.Machine.execCancelPress lane s
  | .cancel lane => Sys2Proof.Machine.execCancel lane s
  | .emergencyEdge => Sys2Proof.Machine.execEmergencyEdge s
  | .emergencyInputInactive => Sys2Proof.Machine.execEmergencyInputInactive s
  | .emergencyEvent lane => Sys2Proof.Machine.execEmergencyEvent lane s
  | .latchClearing lane => Sys2Proof.Machine.execLatchClearing lane s
  | .indicationTimeout lane => Sys2Proof.Machine.execIndicationTimeout lane s
  | .zoneConvert lane => Sys2Proof.Machine.execZoneConvert lane s
  | .zoneRelease lane => Sys2Proof.Machine.execZoneRelease lane s
  | .zoneExit lane => Sys2Proof.Machine.execZoneExit lane s
  | .clockSecond => Sys2Proof.Machine.execClockSecond s
  | .sensorLevelInactive lane => Sys2Proof.Machine.execSensorLevelInactive lane s
  | .buttonReleased lane => Sys2Proof.Machine.execButtonReleased lane s
  | .rstnLow => Sys2Proof.Machine.execRstnLow s

end Sys2Proof.Machine
end

