-- ==== Sys2Proof/Machine/OutputPins.lean ====
section
/-! DEFINITION. What the output pins of a lane show, as functions of State: the ARM line, the lamps and the tone line
(R97, R103, R104; 00_scope.md section 8). -/

namespace Sys2Proof.Machine

/-- The ARM line is high while LOCKED and low while FREE (R97). -/
def State.armHigh (s : State) (l : LaneNo) : Bool := (s.line l).arm == .locked

/-- A blinking lamp `ms` milliseconds after its indication began: lit for 250 ms, dark for 250 ms, beginning lit
(R103). -/
def blink (ms : Nat) : Bool := ms / 250 % 2 == 0

/-- The green lamp of an indication `ms` milliseconds after it began (R103). -/
def Indication.green (i : Indication) (ms : Nat) : Bool :=
  match i with
  | .grant => true
  | .provisional => blink ms
  | .released => blink ms
  | .refuse => false
  | .retry => false
  | .dark => false

/-- The red lamp of an indication `ms` milliseconds after it began (R103). -/
def Indication.red (i : Indication) (ms : Nat) : Bool :=
  match i with
  | .refuse => true
  | .retry => blink ms
  | .grant => false
  | .provisional => false
  | .released => false
  | .dark => false

/-- The tone in hertz of an indication `ms` milliseconds after it began; none is silence. ACCEPT is 500 ms at 2,000 Hz,
REFUSE three times 120 ms at 600 Hz with 120 ms of silence after each (R103). -/
def Indication.tone (i : Indication) (ms : Nat) : Option Nat :=
  match i with
  | .grant => if ms < 500 then some 2000 else none
  | .provisional => if ms < 500 then some 2000 else none
  | .refuse => if ms < 720 ∧ ms / 120 % 2 = 0 then some 600 else none
  | .retry => none
  | .released => none
  | .dark => none

/-- The level of a square wave of a frequency, some microseconds after it began: one half of each period high, the
other low, and which comes first is a free value (R103; log entry 33). -/
def squareWave (hertz us : Nat) : Bool := (us * 2 * hertz / 1000000 % 2 == 0) == Config.toneStartsHigh

/-- The level of the TON line some microseconds after an indication began: the tone's square wave while one sounds,
and low when silent (R103). The three tones of REFUSE begin 240 ms, or 144 periods, apart, so one wave carries them. -/
def Indication.tonHigh (i : Indication) (us : Nat) : Bool :=
  match i.tone (us / 1000) with
  | some hertz => squareWave hertz us
  | none => false

/-- The time the lane's indication has been shown. -/
def State.shownFor (s : State) (l : LaneNo) : Nat := s.timebase - (s.line l).shownSince

def State.greenLit (s : State) (l : LaneNo) : Bool := (s.line l).indication.green (s.shownFor l)
def State.redLit (s : State) (l : LaneNo) : Bool := (s.line l).indication.red (s.shownFor l)
def State.toneHz (s : State) (l : LaneNo) : Option Nat := (s.line l).indication.tone (s.shownFor l)

/-- The TON line is high, `us` microseconds into the millisecond the timebase shows (R103). -/
def State.tonHigh (s : State) (l : LaneNo) (us : Nat) : Bool :=
  (s.line l).indication.tonHigh (s.shownFor l * 1000 + us)

/-- The 64 bytes on the ring output; nothing while it is silent (R149). -/
def State.ringOutput (s : State) : List Byte := s.grp.sending

/-- The bytes the port has on the lane bus (section 11.3); nothing between two transactions. While RSTN is low they are
those of the transaction it met, since the spec says nothing of the bus then (DESIGN CHOICE, log entry 8). -/
def State.busOutput (s : State) : List Byte := (s.lbp.underWay.map Transaction.wire).getD []

end Sys2Proof.Machine
end

