-- ==== Sys2Proof/Safety.lean ====
section
/-! DEFINITION. What the spec says must always hold of the part, as predicates on State, and the conditions under which
the claims about commands are made. -/

namespace Sys2Proof.Machine

/-! ### Conditions -/

/-- The part is not held in reset (R152). -/
def State.live (s : State) : Prop := s.inReset = false

/-- The part is not held in reset and not in STRAP_FAULT: the latched P is below the latched S (R155). -/
def State.able (s : State) : Prop := s.inReset = false ∧ s.grp.position < s.grp.size

/-- The management cell at the head of the command queue, and those behind it (R164). -/
def State.headCommand (s : State) (c : MgmtCell) (rest : List MgmtCell) : Prop := s.mgu.queue = c :: rest

/-- The part once the cell at the head of the command queue has been taken from it. -/
def State.commandsLeft (s : State) (rest : List MgmtCell) : State := { s with mgu := { s.mgu with queue := rest } }

/-- The part once the entry at the head of the intake queue has been taken from it. -/
def State.intakeLeft (s : State) (rest : List Intake) : State := { s with hdu := { s.hdu with intake := rest } }

/-- A management cell taken from the head of the command queue and answered, with nothing else changed (R166). -/
def State.replied (s : State) (rest : List MgmtCell) (c : MgmtCell) (st : Status) (d : ReplyData) : State :=
  (s.commandsLeft rest).reply c st d

/-- The row of the opcode table that carries out a management command (section 10.1). -/
def Command.row (pins : Pins) (access : LoadAccess) : Command → Instr
  | .putRecord _ => .putRecord
  | .loadOpen _ => .loadOpen
  | .loadRecords .. => .loadRecords access
  | .loadAbort => .loadAbort
  | .voidKey _ => .voidKey
  | .restoreKey _ => .restoreKey
  | .dropKey _ => .dropKey
  | .queryKey _ => .queryKey
  | .setLane .. => .setLane
  | .laneOpen _ => .laneOpen
  | .laneClose _ => .laneClose
  | .laneReset _ => .laneReset
  | .laneRelease _ => .laneRelease
  | .readLane .. => .readLane
  | .setZone .. => .setZone
  | .readZone .. => .readZone
  | .setClock _ => .setClock
  | .setGate .. => .setGate
  | .readGate _ => .readGate
  | .emergencyClear => .emergencyClear
  | .gateClear => .gateClear pins
  | .unknown _ => .unknownCommand

/-- The lane a command names (section 10.1). -/
def Command.laneNamed : Command → Option Nat
  | .setLane lane _ _ _ _ _ _ _ _ _ | .laneOpen lane | .laneClose lane | .laneReset lane | .laneRelease lane
  | .readLane lane _ => some lane
  | _ => none

/-- Nothing waits at a lane but presentations, so that a command for it has its turn (chapter 4, R72; log entry 3). -/
def State.turnOf (s : State) (l : LaneNo) : Prop := ∀ e ∈ (s.lane l).events, e.isPresentation = true

/-- What one lane holds changed in the Lane Controller, the Lane Bus Port and the Turnstile Line Unit, and nothing
else. -/
def State.atLane (s : State) (l : LaneNo) (lane : Lane → Lane) (head : Head → Head) (lines : Lines → Lines) : State :=
  ((s.modLane l lane).modHead l head).modLine l lines

/-- The zone request an ENTRY lane makes as it gives its place back; an EXIT lane makes none (R159). -/
def Lane.releaseRequest (ln : Lane) (l : LaneNo) : List ZoneRequest :=
  if ln.config.direction = .entry then [⟨l, ln.config.zone, .release⟩] else []

/-- The part with some zone requests joined behind those that wait. -/
def State.withRequests (s : State) (rs : List ZoneRequest) : State :=
  { s with zcu := { s.zcu with requests := s.zcu.requests ++ rs } }

/-- An open load stream once a record has been upserted against it (R33). -/
def Stream.counted (st : Stream) (u : Upserted) (k : Key) : Stream :=
  if u.status = .ok then { st with remaining := st.remaining - 1, taken := st.taken + 1 }
  else
    { st with
      remaining := st.remaining - 1
      rejected := st.rejected + 1
      firstRejection := if st.firstRejection.isSome then st.firstRejection else some (u.status, k) }

/-- No live hold's deadline has passed. -/
def State.noneOverdue (s : State) : Prop := ∀ i h, s.holdAt i = some h → s.timebase < h.deadline

/-- A record with a key stands at a position of the key's bucket, and nowhere else in it. -/
def State.filedAt (s : State) (k : Key) (p : Nat) (r : Record) : Prop :=
  s.recordAt p = some r ∧ r.key = k ∧ p / 8 = k.bucket s.grp.size ∧
    ∀ q x, s.recordAt q = some x → x.key = k → q / 8 = k.bucket s.grp.size → q = p

/-- No slot of a key's bucket holds a record with the key. -/
def State.notFiled (s : State) (k : Key) : Prop :=
  ∀ q x, s.recordAt q = some x → q / 8 = k.bucket s.grp.size → x.key ≠ k

/-- The event a lane takes next by any row but PRESENTATION: the oldest that is no presentation, between the
presentations it overtakes and the events behind it (R72, R74; log entry 3). -/
def State.nextIs (s : State) (l : LaneNo) (before : List LaneEvent) (e : LaneEvent) (after : List LaneEvent) : Prop :=
  (s.lane l).events = before ++ e :: after ∧ (∀ x ∈ before, x.isPresentation = true) ∧ e.isPresentation = false

/-- The part once that event has been taken. -/
def State.eventGone (s : State) (l : LaneNo) (before after : List LaneEvent) : State :=
  s.modLane l fun ln => { ln with events := before ++ after }

/-- The lane of a row that acts on one lane by its number. -/
def rowLane : Instr → Option LaneNo
  | .claimTimeout l | .linkRegained l | .linkLoss l | .presentation l | .claimResult l | .rotationEdge l | .rotation l
  | .passTimerExpired l | .passExpiry l | .cancelPress l | .cancel l | .emergencyEvent l | .latchClearing l
  | .indicationTimeout l | .zoneConvert l | .zoneRelease l | .zoneExit l | .sensorLevelInactive l
  | .buttonReleased l => some l
  | _ => none

/-- What lanes other than one hold is unchanged: their lane records with the events that wait, the port's and the line
unit's items, their tracker entries, their records in the provisional log, the verdicts that wait for them, and their
zone requests (R68, R97, R111, R124, R136, R156); and so is the transaction on the bus. -/
structure State.othersKept (l : LaneNo) (s t : State) : Prop where
  lane : ∀ m, m ≠ l → t.lane m = s.lane m
  head : ∀ m, m ≠ l → t.head m = s.head m
  line : ∀ m, m ≠ l → t.line m = s.line m
  place : ∀ m, m ≠ l → t.place m = s.place m
  log : ∀ m, m ≠ l → (t.clt.log.filter fun r => r.lane == m.val) = s.clt.log.filter fun r => r.lane == m.val
  verdicts : ∀ m, m ≠ l →
    (t.clt.inbox.filter fun v => v.tag.lane == m.val) = s.clt.inbox.filter fun v => v.tag.lane == m.val
  requests : ∀ m, m ≠ l → (t.zcu.requests.filter fun r => r.lane == m) = s.zcu.requests.filter fun r => r.lane == m
  bus : t.lbp.underWay = s.lbp.underWay

/-! ### What fits a cell -/

/-- The fields of a tag fit their bytes (section 11.1). -/
def Tag.fits (t : Tag) : Prop := t.part < 256 ∧ t.lane < 256 ∧ t.seq < 256

/-- The fields of a key fit their bytes (section 11.1). -/
def Key.fits (k : Key) : Prop := k.length < 256 ∧ k.value < 2 ^ 64

/-- The fields of an entry fit the bytes of its cell, and its time is one of the event clock (section 11.2). -/
def Intake.fits : Intake → Prop
  | .claim t k _ time zone _ => t.fits ∧ k.fits ∧ time ≤ 1048575 ∧ zone < 256
  | .passed t k _ time => t.fits ∧ k.fits ∧ time ≤ 1048575
  | .abandon t k => t.fits ∧ k.fits
  | .lateUse part lane k _ time => part < 256 ∧ lane < 256 ∧ k.fits ∧ time ≤ 1048575

/-- The fields of a record image fit its bytes and half bytes (chapter 11, the record image). -/
def Image.fits (im : Image) : Prop :=
  im.key.fits ∧ im.static.cls < 16 ∧ im.static.allowance < 16 ∧ im.static.cooldown < 256 ∧
    im.static.openMinute < 16384 ∧ im.static.closeMinute < 16384

/-- The numbers of a command fit the bytes that carry them, and an unknown command's code is none of section 11.4
(section 10.1; chapter 11, command arguments). -/
def Command.fits : Command → Prop
  | .putRecord im => im.fits
  | .loadOpen count => count < 65536
  | .loadRecords count first second => count < 256 ∧ first.fits ∧ second.fits
  | .voidKey k | .restoreKey k | .dropKey k | .queryKey k => k.fits
  | .setLane lane _ _ zone _ _ passWindow echoWindow staleLimit _ =>
    lane < 256 ∧ zone < 256 ∧ passWindow < 256 ∧ echoWindow < 256 ∧ staleLimit < 256
  | .laneOpen lane | .laneClose lane | .laneReset lane | .laneRelease lane | .readLane lane _ => lane < 256
  | .setZone zone quota => zone < 256 ∧ quota < 65536
  | .readZone zone _ => zone < 256
  | .setClock second => second < 2 ^ 32
  | .setGate claimTimeout holdLimit _ => claimTimeout < 65536 ∧ holdLimit < 256
  | .unknown code => code.toNat = 0 ∨ 0x15 < code.toNat
  | .loadAbort | .readGate _ | .emergencyClear | .gateClear => True

/-- The argument bytes of a command as the station sends them, a set flag written as the byte `set` (chapter 11, command
arguments). A LOAD_RECORDS cell of one record carries a second image all the same, whose bytes are spare. -/
def Command.arguments (set : Byte) : Command → List Byte
  | .putRecord im => im.bytes
  | .loadOpen count => beBytes 2 count
  | .loadRecords count first second => beBytes 1 count ++ first.bytes ++ second.bytes
  | .voidKey k | .restoreKey k | .dropKey k | .queryKey k => k.bytes
  | .setLane lane fitted direction zone classes priority passWindow echoWindow staleLimit policy =>
    beBytes 1 lane ++ [fitted, direction] ++ beBytes 1 zone ++ beBytes 2 classes.toNat ++ [priority] ++
      beBytes 1 passWindow ++ beBytes 1 echoWindow ++ beBytes 1 staleLimit ++ [policy]
  | .laneOpen lane | .laneClose lane | .laneReset lane | .laneRelease lane => beBytes 1 lane
  | .readLane lane clear => beBytes 1 lane ++ [if clear then set else 0]
  | .setZone zone quota => beBytes 1 zone ++ beBytes 2 quota
  | .readZone zone clear => beBytes 1 zone ++ [if clear then set else 0]
  | .setClock second => beBytes 4 second
  | .setGate claimTimeout holdLimit mask => beBytes 2 claimTimeout ++ beBytes 1 holdLimit ++ [mask]
  | .readGate clear => [if clear then set else 0]
  | .loadAbort | .emergencyClear | .gateClear | .unknown _ => []

/-! ### Where the fields of a reply and of a report stand

Offsets count from the payload's first byte. A number wider than its bytes stands there modulo their range. -/

/-- A number stands in `len` bytes at an offset, most significant byte first (chapter 11). -/
def numberAt (p : List Byte) (off len n : Nat) : Prop := natAt p off len = n % 256 ^ len

/-- A key stands at an offset: medium, length, value (section 11.1). -/
def keyStands (p : List Byte) (off : Nat) (k : Key) : Prop :=
  byteAt p off = k.medium ∧ numberAt p (off + 1) 1 k.length ∧ numberAt p (off + 2) 8 k.value

/-- A tag stands at an offset: requester part, lane, sequence number (section 11.1). -/
def tagStands (p : List Byte) (off : Nat) (t : Tag) : Prop :=
  numberAt p off 1 t.part ∧ numberAt p (off + 1) 1 t.lane ∧ numberAt p (off + 2) 1 t.seq

/-- A time, or FFFFFFFFH for no time, stands at an offset (section 11.1). -/
def timeStands (p : List Byte) (off : Nat) (t : Option Nat) : Prop := numberAt p off 4 (t.getD 0xFFFFFFFF)

/-- A number of bytes at an offset are zero. -/
def zeroAt (p : List Byte) (off len : Nat) : Prop := ∀ i, i < len → byteAt p (off + i) = 0

/-- A key that may be absent stands behind its presence byte (chapter 11, report contents). -/
def optKeyStands (p : List Byte) (off : Nat) : Option Key → Prop
  | some k => byteAt p off = 1 ∧ keyStands p (off + 1) k
  | none => zeroAt p off 11

/-- A tag that may be absent stands behind its presence byte (chapter 11, report contents). -/
def optTagStands (p : List Byte) (off : Nat) : Option Tag → Prop
  | some t => byteAt p off = 1 ∧ tagStands p (off + 1) t
  | none => zeroAt p off 4

/-- An origin stands behind its form byte, the sequence byte 00H in the second form (chapter 11, report contents). -/
def originStands (p : List Byte) (off : Nat) : UseOrigin → Prop
  | .tag t => byteAt p off = 0 ∧ tagStands p (off + 1) t
  | .lane part lane => byteAt p off = 1 ∧ tagStands p (off + 1) ⟨part, lane, 0⟩

/-- A yes-or-no value stands at an offset, 00H no and 01H yes (chapter 11). -/
def flagStands (p : List Byte) (off : Nat) (b : Bool) : Prop := byteAt p off = if b then 1 else 0

/-- The record image stands at an offset (chapter 11, the record image). -/
def imageStands (p : List Byte) (off : Nat) (k : Key) (r : StaticFields) : Prop :=
  keyStands p off k ∧ numberAt p (off + 10) 1 (r.cls * 16 + r.allowance) ∧ byteAt p (off + 11) = r.zones ∧
    numberAt p (off + 12) 1 r.cooldown ∧ numberAt p (off + 13) 2 r.openMinute ∧ numberAt p (off + 15) 2 r.closeMinute

/-- Settings stand at an offset as SET_GATE carries them (chapter 11). -/
def settingsStand (p : List Byte) (off : Nat) (g : Settings) : Prop :=
  numberAt p off 2 g.claimTimeout ∧ numberAt p (off + 2) 1 g.holdLimit ∧
    ∀ i, i < 8 → (byteAt p (off + 3)).getLsbD i = [g.mask.passage, g.mask.forced, g.mask.provisional].getD i false

/-- The contents of a report stand behind its kind and its time (R174, R175; chapter 11, report contents). -/
def Report.standsIn (p : List Byte) : Report → Prop
  | .passage lane direction zone origin key tag time =>
    numberAt p 5 1 lane ∧ byteAt p 6 = direction.code ∧ numberAt p 7 1 zone ∧ byteAt p 8 = origin.code ∧
      optKeyStands p 9 key ∧ optTagStands p 20 tag ∧ timeStands p 24 (some time)
  | .forced lane state time => numberAt p 5 1 lane ∧ byteAt p 6 = state.code ∧ timeStands p 7 time
  | .provisional lane direction zone key time =>
    numberAt p 5 1 lane ∧ byteAt p 6 = direction.code ∧ numberAt p 7 1 zone ∧ keyStands p 8 key ∧
      timeStands p 18 (some time)
  | .loadDone taken rejected excess first aborted =>
    numberAt p 5 4 taken ∧ numberAt p 9 4 rejected ∧ numberAt p 13 1 excess ∧
      (∀ st k, first = some (st, k) → byteAt p 14 = 1 ∧ byteAt p 15 = st.code ∧ keyStands p 16 k) ∧
      (first = none → zeroAt p 14 12) ∧ flagStands p 26 aborted
  | .holdLapsed tag key kind cause use =>
    tagStands p 5 tag ∧ keyStands p 8 key ∧ byteAt p 18 = kind.code ∧ byteAt p 19 = cause.code ∧
      byteAt p 20 = use.code
  | .duplicate key occasion time origin =>
    keyStands p 5 key ∧ byteAt p 15 = occasion.code ∧ timeStands p 16 (some time) ∧ originStands p 20 origin
  | .unknownUse key kind time origin =>
    keyStands p 5 key ∧ byteAt p 15 = kind.code ∧ timeStands p 16 (some time) ∧ originStands p 20 origin
  | .fault lane left => numberAt p 5 1 lane ∧ byteAt p 6 = left.code
  | .recovered lane entered => numberAt p 5 1 lane ∧ byteAt p 6 = entered.code
  | .emergency cause => byteAt p 5 = cause.code
  | .emergencyCleared seconds => numberAt p 5 2 seconds
  | .ringUp seconds downs => numberAt p 5 2 seconds ∧ numberAt p 7 2 downs
  | .ringDown downs => numberAt p 5 2 downs

/-- READ_LANE's data stands behind the status (R96, chapter 11). -/
def LaneReadout.standsIn (p : List Byte) (r : LaneReadout) : Prop :=
  (flagStands p 3 r.config.fitted ∧ byteAt p 4 = r.config.direction.code ∧ numberAt p 5 1 r.config.zone ∧
    numberAt p 6 2 r.config.classes.toNat ∧ byteAt p 8 = r.config.priority.code ∧
    numberAt p 9 1 r.config.passWindow ∧ numberAt p 10 1 r.config.echoWindow ∧
    numberAt p 11 1 r.config.staleLimit ∧ byteAt p 12 = r.config.policy.code) ∧
  byteAt p 13 = r.state.code ∧ flagStands p 14 r.openIntent ∧ numberAt p 15 1 r.seq ∧
  byteAt p 16 = (r.origin.map (·.code)).getD 0xFF ∧
  (∀ d, r.last = some d →
    byteAt p 17 = 1 ∧ byteAt p 18 = d.disposition.message.code ∧ numberAt p 19 1 d.disposition.argument ∧
      optKeyStands p 20 d.disposition.key ∧ timeStands p 31 d.time) ∧
  (r.last = none → zeroAt p 17 18) ∧
  numberAt p 35 2 r.counters.admitted ∧ numberAt p 37 2 r.counters.refused ∧ numberAt p 39 2 r.counters.forced ∧
  numberAt p 41 2 r.counters.manual ∧ numberAt p 43 2 r.counters.provisional ∧ numberAt p 45 2 r.counters.free

/-- READ_GATE's 53 bytes stand behind the status (R170, chapter 11). -/
def GateReadout.standsIn (p : List Byte) (g : GateReadout) : Prop :=
  numberAt p 3 1 g.position ∧ numberAt p 4 1 g.size ∧
  (∀ i, i < 8 → (byteAt p 5).getLsbD i =
    [g.strapFault, g.ringUp, g.emergencyLatched, g.emergencyInput].getD i false) ∧
  numberAt p 6 2 g.ringCounters.checkErrors ∧ numberAt p 8 2 g.ringCounters.strayCells ∧
  numberAt p 10 2 g.ringCounters.returnedDrops ∧ numberAt p 12 2 g.ringCounters.hopExpiries ∧
  numberAt p 14 2 g.ringCounters.transitOverruns ∧ numberAt p 16 2 g.ringCounters.transmitDrops ∧
  numberAt p 18 2 g.ringCounters.ringDowns ∧
  numberAt p 20 1 g.transitFill ∧ numberAt p 21 1 g.localFill ∧ numberAt p 22 1 g.generalFill ∧
  byteAt p 23 = g.tableStatus.code ∧ numberAt p 24 2 (g.remaining - 1) ∧ numberAt p 26 4 g.tableFill ∧
  numberAt p 30 1 g.intakeFill ∧ numberAt p 31 1 g.holdCount ∧ numberAt p 32 2 g.noticeDrops ∧
  numberAt p 34 2 g.strayAbandons ∧ numberAt p 36 1 g.trackerEntries ∧ numberAt p 37 2 g.logFill ∧
  numberAt p 39 2 g.lateVerdicts ∧ numberAt p 41 2 g.unloggedExits ∧ numberAt p 43 2 g.logDrops ∧
  timeStands p 45 g.clock ∧ settingsStand p 49 g.settings ∧ numberAt p 53 1 g.commandFill ∧
  numberAt p 54 2 g.commandDrops

/-- The data of a reply stands behind the code, the request number and the status (chapter 11, reply data). -/
def ReplyData.standsIn (p : List Byte) : ReplyData → Prop
  | .nothing => True
  | .put outcome => byteAt p 3 = outcome.code
  | .opened remaining => numberAt p 3 2 (remaining - 1)
  | .loaded first second remaining =>
    byteAt p 3 = first.code ∧ byteAt p 4 = (second.map (·.code)).getD 0 ∧ numberAt p 5 2 remaining
  | .record r =>
    imageStands p 3 r.key r.static ∧ byteAt p 20 = r.uses.use.code ∧ numberAt p 21 1 r.uses.reentries ∧
      timeStands p 22 (some r.uses.lastExit) ∧ flagStands p 26 r.revoked ∧ flagStands p 27 r.hold.isSome
  | .lane r => r.standsIn p
  | .quota q => numberAt p 3 2 q
  | .zone z => numberAt p 3 2 z.quota ∧ numberAt p 5 2 z.count ∧ numberAt p 7 2 z.reserved ∧ numberAt p 9 2 z.underflow
  | .clock second => timeStands p 3 (some second)
  | .settings g => settingsStand p 3 g
  | .gate g => g.standsIn p
  | .straps position size fault => numberAt p 3 1 position ∧ numberAt p 4 1 size ∧ flagStands p 5 fault

/-! ### Bounds -/

/-- The intake queue within its places, of which claims take at most 32, and the home's counters (R40, R57). -/
structure Hdu.Bounded (h : Hdu) : Prop where
  intake : h.intake.length ≤ 48
  claims : (h.intake.filter Intake.isClaim).length ≤ 32
  counters : h.noticeDrops ≤ 65535 ∧ h.strayAbandons ≤ 65535

/-- The log within its places, no two ENTRY records of it with equal keys, and the tracker's counters (R136, R141). -/
structure Clt.Bounded (c : Clt) : Prop where
  log : c.log.length ≤ 256
  entries : c.log.Pairwise fun a b => ¬(a.kind = .entry ∧ b.kind = .entry ∧ a.key = b.key)
  counters : c.lateVerdicts ≤ 65535 ∧ c.unloggedExits ≤ 65535 ∧ c.logDrops ≤ 65535

/-- The ring port's queues within their places, of which general cells take at most 24, the latched straps, and the
seven counters (R147, R148, R151, R153). -/
structure Grp.Bounded (g : Grp) : Prop where
  transit : g.transit.length ≤ 8
  localQueue : g.localQueue.length ≤ 32
  general : g.generalFill ≤ 24
  straps : g.position ≤ 7 ∧ 1 ≤ g.size ∧ g.size ≤ 8
  counters : g.counters.checkErrors ≤ 65535 ∧ g.counters.strayCells ≤ 65535 ∧ g.counters.returnedDrops ≤ 65535 ∧
    g.counters.hopExpiries ≤ 65535 ∧ g.counters.transitOverruns ≤ 65535 ∧ g.counters.transmitDrops ≤ 65535 ∧
    g.counters.ringDowns ≤ 65535

/-- The command queue within its places, its commands as a cell can carry them, the clock and the settings within their
ranges (R164, R167, R169). -/
structure Mgu.Bounded (m : Mgu) : Prop where
  commands : m.queue.length ≤ 4
  arguments : ∀ c ∈ m.queue, c.command.fits
  clock : ∀ t, m.clock = some t → t ≤ 1048575
  timeout : 100 ≤ m.settings.claimTimeout ∧ m.settings.claimTimeout ≤ 2000 ∧ m.settings.claimTimeout % 10 = 0
  holdLimit : 10 ≤ m.settings.holdLimit ∧ m.settings.holdLimit ≤ 120
  drops : m.commandDrops ≤ 65535

/-- The quotas, counts and underflows of the zone records within their range (R156). Their reserved is in
`State.ZonesSound`. -/
def Zcu.Bounded (z : Zcu) : Prop :=
  ∀ i : ZoneNo, z.zones[i].count ≤ 65535 ∧ z.zones[i].underflow ≤ 65535 ∧ z.zones[i].quota ≤ 65535

/-- The missed count, the cells offered and the room known of every head are 0 to 2 (R111). -/
def Lbp.Bounded (b : Lbp) : Prop :=
  ∀ l : LaneNo, b.heads[l].missed ≤ 2 ∧ b.heads[l].offered ≤ 2 ∧ b.heads[l].room ≤ 2

/-- A lane's six counters within their range (R96). -/
abbrev LaneCounters.Bounded (c : LaneCounters) : Prop :=
  c.admitted ≤ 65535 ∧ c.refused ≤ 65535 ∧ c.forced ≤ 65535 ∧ c.manual ≤ 65535 ∧ c.provisional ≤ 65535 ∧
    c.free ≤ 65535

/-- An open stream: its three counts come to 65,536 records at most, none is an excess, and the first rejection is one
of the three statuses that refuse a record. Records remain, unless the first record of the cell at hand, taken alone,
was the last (R31, R33, R34; log entry 13). -/
structure Stream.Bounded (st : Stream) (firstLoaded : Option Status) : Prop where
  counts : st.remaining + st.taken + st.rejected ≤ 65536
  excess : st.excess = 0
  rejection : ∀ x, st.firstRejection = some x → x.1 = .badArg ∨ x.1 = .wrongHome ∨ x.1 = .bucketFull
  remaining : firstLoaded = none → 0 < st.remaining

/-- The blocks with queues, counters and settings of the whole part are within their places and ranges. -/
structure State.QueuesBounded (s : State) : Prop where
  hdu : s.hdu.Bounded
  clt : s.clt.Bounded
  grp : s.grp.Bounded
  mgu : s.mgu.Bounded
  zcu : s.zcu.Bounded

/-- Every queue within its places and every counter, setting and clock within its range: those of the whole part, the
heads' items, the lanes' counters and the open load stream. -/
structure State.Bounded (s : State) : Prop where
  queues : s.QueuesBounded
  heads : s.lbp.Bounded
  lanes : ∀ l, (s.lane l).counters.Bounded
  stream : ∀ st, s.adt.stream = some st → st.Bounded s.mgu.firstLoaded

/-! ### The table and the holds -/

/-- The use fields of R15: FRESH stands with nothing used, and re-entries used never passes 15. -/
def UseFields.sound (u : UseFields) : Prop := u.reentries ≤ 15 ∧ (u.use = .fresh → u.reentries = 0 ∧ u.lastExit = 0)

/-- A record that stands at a position of a READY table (R7, R10, R15, R17, R22). -/
def Record.sound (r : Record) (position size p : Nat) : Prop :=
  r.key.formed = true ∧ r.key.home size = position ∧ p / 8 = r.key.bucket size ∧ r.static.zones ≠ 0 ∧
    r.static.openMinute < r.static.closeMinute ∧ r.uses.sound

/-- The table in canonical form, and while it is READY: every record filed under its key and valid, no two with equal
keys, the fill the number of them, the hold fields and the hold table naming each other, and no two holds with equal
tags; while it is SWEEPING no hold is live and the fill is 0 (R14 to R17, R21, R43, R48, R65). -/
structure State.TableSound (s : State) : Prop where
  form : s.adt.table.wf
  records : s.adt.phase = .ready → ∀ p r, s.recordAt p = some r → r.sound s.grp.position s.grp.size p
  keys : s.adt.phase = .ready → ∀ p q r x, s.recordAt p = some r → s.recordAt q = some x → r.key = x.key → p = q
  fill : s.adt.phase = .ready → s.adt.fill = s.adt.table.length
  held : s.adt.phase = .ready → ∀ p r i, s.recordAt p = some r → r.hold = some i →
    ∃ h, s.holdAt i = some h ∧ h.position = p
  holds : ∀ i h, s.holdAt i = some h → (∃ r, s.recordAt h.position = some r ∧ r.hold = some i) ∧ h.snapshot.sound
  tags : ∀ i j h g, s.holdAt i = some h → s.holdAt j = some g → h.tag = g.tag → i = j
  sweeping : s.adt.phase = .sweeping → s.adt.fill = 0 ∧ ∀ i, s.holdAt i = none

/-! ### The lanes -/

/-- A lane with its lines, its tracker place and the event clock: the arm is free only in AWAIT_PASS and RELEASED, the
pass timer, the rotation latch and a passage belong to AWAIT_PASS, the cancel latch to the states that take presses, a
tracker entry to VALIDATING, an open lane is fitted and has a clock, and the configuration is in range (R68, R69, R71,
R73, R84, R90, R99 to R102, R124). -/
structure Lane.Sound (ln : Lane) (lines : Lines) (place : Option TrackerEntry) (clock : Option Nat) : Prop where
  arm : lines.arm = .free → ln.state = .awaitPass ∨ ln.state = .released
  timer : lines.passTimer.isSome → ln.state = .awaitPass
  latch : lines.latch ≠ .disarmed → ln.state = .awaitPass
  cancel : lines.cancelSet = true → ln.state = .validating ∨ ln.state = .awaitPass
  passage : ln.passage.isSome → ln.state = .awaitPass
  tracked : place.isSome → ln.state = .validating
  closed : ln.state = .closed → ln.openIntent = false
  clocked : ln.openIntent = true ∨ ln.state = .idle ∨ ln.state = .validating ∨ ln.state = .awaitPass → clock.isSome
  fitted : ln.openIntent = true → ln.config.fitted = true
  seq : ln.seq ≤ 255
  windows : (2 ≤ ln.config.passWindow ∧ ln.config.passWindow ≤ 30) ∧ ln.config.echoWindow ≤ 5 ∧
    (1 ≤ ln.config.staleLimit ∧ ln.config.staleLimit ≤ 10)
  counters : ln.counters.Bounded

/-- What waits at a lane: one presentation at most, which the port has marked as in hand; none in VALIDATING, none
while one is being fetched; and no result while the lane's claim is outstanding, nor behind a presentation, so that a
result is never taken for the answer to another claim (R74, R80, R115, R117, R118, R132). -/
structure Lane.EventsSound (ln : Lane) (head : Head) (place : Option TrackerEntry) (fetching : Bool) : Prop where
  answer : place.isSome → ∀ e ∈ ln.events, e.isResult = false
  order : ln.events.Pairwise fun a b => a.isPresentation = true → b.isPresentation = false ∧ b.isResult = false
  inHand : head.inHand = false → ∀ e ∈ ln.events, e.isPresentation = false
  validating : ln.state = .validating → ∀ e ∈ ln.events, e.isPresentation = false
  fetched : fetching = true → ln.state ≠ .validating ∧ ∀ e ∈ ln.events, e.isPresentation = false

/-- The port is fetching from a lane (R117). -/
def State.fetching (s : State) (l : LaneNo) : Bool := s.lbp.underWay == some (.fetch l)

def State.LanesSound (s : State) : Prop :=
  ∀ l, (s.lane l).Sound (s.line l) (s.place l) s.mgu.clock ∧
    (s.lane l).EventsSound (s.head l) (s.place l) (s.fetching l)

/-! ### The zones -/

/-- An ENTRY lane in VALIDATING or AWAIT_PASS holds a place of its zone (R156). -/
def Lane.holdsPlace (ln : Lane) : Bool :=
  ln.config.direction == .entry && (ln.state == .validating || ln.state == .awaitPass)

/-- A waiting request that gives a place back (R158, R159). -/
def ZoneRequest.givesBack (r : ZoneRequest) : Bool := r.ask != .exit

/-- How many lanes hold a place of a zone. -/
def State.placesHeld (s : State) (z : ZoneNo) : Nat :=
  (laneNos.filter fun l => (s.lane l).holdsPlace && (s.lane l).config.zone == z).length

/-- How many waiting requests give a place of a zone back. -/
def State.placesReturning (s : State) (z : ZoneNo) : Nat :=
  (s.zcu.requests.filter fun r => r.givesBack && r.zone == z).length

/-- Each zone's reserved is the places its lanes hold and those on their way back, and no lane has more than one of
either (R156, R157). -/
structure State.ZonesSound (s : State) : Prop where
  reserved : ∀ z, (s.zone z).reserved = s.placesHeld z + s.placesReturning z
  onePlace : ∀ l, (if (s.lane l).holdsPlace then 1 else 0) +
    (s.zcu.requests.filter fun r => r.givesBack && r.lane == l).length ≤ 1

/-- A state in which all of them hold. -/
structure State.Safe (s : State) : Prop where
  bounded : s.Bounded
  table : s.TableSound
  lanes : s.LanesSound
  zones : s.ZonesSound

end Sys2Proof.Machine
end

