-- ==== Sys2Proof/Certificates/Slice0/Obligations.lean ====
section
/-! DEFINITION. The statements for the provers. Each formalises rules of spec/, named in its docstring. -/

open Sys2Proof Sys2Proof.Machine

/-! ### The queue of commands, and the resets -/

/-- A step carries out the command at the front of the queue on the state with the queue's rest. On an empty queue one
millisecond of the timebase passes: the model's choice (log entries 1 and 4). -/
def Obligations.StepRunsFrontCommand : Prop :=
  (∀ (c : Instr) (rest : List Instr) (s : State),
    step { s with pending := c :: rest } = exec c { s with pending := rest }) ∧
  ∀ s : State, step { s with pending := [] } = .next { s with pending := [], timebase := s.timebase + 1 }

/-- No command faults or is refused, whatever the state, and none touches the queue: the model's choice in so far as a
command that is not due leaves the part as it is (log entries 2 and 28). -/
def Obligations.EveryCommandCompletes : Prop :=
  ∀ (c : Instr) (s : State), ∃ t, exec c s = .next t ∧ t.pending = s.pending

/-- While RSTN is low the part does nothing until a power-on reset ends it (R152, section 5.7; log entry 8). -/
def Obligations.HeldInResetNothingActs : Prop :=
  ∀ (c : Instr) (s : State), s.inReset = true → (∀ pins, c ≠ .powerOn pins) → c ≠ .rstnLow → exec c s = .next s

/-- POWER_ON: every block at its reset value, the straps and the input levels read from the pins (R19, R21, R31, R65,
R68, R98, R102, R105, R106, R111, R124, R136, R150, R152, R153, R156, R164, R167, R169). The slots keep what they held
until the sweep has emptied them (log entry 7); the timebase goes on (log entry 4). -/
def Obligations.PowerOnLeavesResetValues : Prop :=
  ∀ (pins : Pins) (s : State), ∃ t, exec (.powerOn pins) s = .next t ∧
    t.pending = s.pending ∧ t.inReset = false ∧ t.timebase = s.timebase ∧ t.freeCount = s.freeCount ∧
    t.adt = ⟨.sweeping, s.adt.table, 0, none⟩ ∧
    (t.hdu.intake = [] ∧ (∀ i, t.holdAt i = none) ∧ t.hdu.noticeDrops = 0 ∧ t.hdu.strayAbandons = 0) ∧
    ((∀ l, t.place l = none) ∧ t.clt.log = [] ∧ t.clt.inbox = [] ∧ t.clt.lateVerdicts = 0 ∧
      t.clt.unloggedExits = 0 ∧ t.clt.logDrops = 0) ∧
    (∀ l, t.lane l =
      { config :=
          { fitted := true, direction := .entry, zone := 0, classes := 0xFFFF, priority := .normal, passWindow := 8,
            echoWindow := 2, staleLimit := 3, policy := .refuse }
        openIntent := false, state := .closed, seq := 0, current := none, passage := none, echo := none, last := none
        counters := ⟨0, 0, 0, 0, 0, 0⟩
        events := if pins.erel then [] else [.emergency] }) ∧
    ((∀ l, t.head l =
      { linked := true, missed := 0, offered := 0, room := 0, inHand := false, waiting := none }) ∧
      t.lbp.highPointer = 15 ∧ t.lbp.normalPointer = 15 ∧ t.lbp.round = [] ∧ t.lbp.afterPoll = false ∧
      t.lbp.underWay = none) ∧
    ((∀ z, t.zone z = ⟨0, 0, 0, 0⟩) ∧ t.zcu.requests = []) ∧
    (∀ l : LaneNo, t.line l =
      { arm := .locked, indication := .dark, shownSince := s.timebase, latch := .disarmed
        sensorActive := !pins.rot.getLsbD l, passTimer := none, cancelSet := false
        buttonPressed := !pins.can.getLsbD l }) ∧
    (t.tlu.latched = !pins.erel ∧ t.tlu.inputActive = !pins.erel ∧ t.tlu.setAt = s.timebase) ∧
    t.grp =
      { position := pins.ps.toNat, size := pins.ss.toNat + 1, transit := []
        localQueue := if pins.erel then [] else [⟨15, .timed (.emergency .reset) none⟩]
        prefer := .transit, sending := [], ringUp := false, lastGood := s.timebase, downSince := s.timebase
        counters := ⟨0, 0, 0, 0, 0, 0, 0⟩ } ∧
    t.mgu =
      { clock := none, nextSecond := 0, settings := ⟨600, 40, ⟨true, true, true⟩⟩, queue := [], firstLoaded := none
        commandDrops := 0 }

/-- GATE_CLEAR leaves what a power-on leaves, but the output goes on sending, and the reply, with the newly latched
straps, is the first cell of the emptied queue (R149, R172). -/
def Obligations.GateClearIsPowerOnWithReply : Prop :=
  ∀ (pins : Pins) (s : State) (c : MgmtCell) (rest : List MgmtCell),
    s.live → s.headCommand c rest → c.command = .gateClear →
    ∃ u, exec (.powerOn pins) s = .next u ∧
      exec (.gateClear pins) s = .next
        { u with
          grp :=
            { u.grp with
              sending := s.grp.sending
              localQueue :=
                ⟨c.source, .reply 0x15 c.request .ok
                  (.straps pins.ps.toNat (pins.ss.toNat + 1) (pins.ss.toNat + 1 ≤ pins.ps.toNat))⟩ ::
                  u.grp.localQueue } }

/-- RSTN_LOW: every arm LOCKED, every latch DISARMED and EMPTY, every timer STOPPED, every line dark, the output silent
(R97, R100, R101, R104, R149, R152); the emergency latch is not held meanwhile, and all else stands, the transaction on
the lane bus included (log entry 8). -/
def Obligations.RstnLowHoldsTheLines : Prop :=
  ∀ s : State, ∃ t, exec .rstnLow s = .next t ∧
    t = { s with inReset := true, tlu := t.tlu, grp := { s.grp with sending := [] } } ∧
    (t.tlu.latched = false ∧ t.tlu.inputActive = s.tlu.inputActive ∧ t.tlu.setAt = s.tlu.setAt) ∧
    ∀ l, t.line l =
      { s.line l with
        arm := .locked, indication := .dark, shownSince := s.timebase, latch := .disarmed, passTimer := none
        cancelSet := false }

/-- The state the model starts from is what a power-on with both sets of straps low and every input inactive leaves of
it, and every invariant holds there (log entries 4, 6 and 7). -/
def Obligations.ResetStateIsPowerOnAndSafe : Prop :=
  exec (.powerOn ⟨0, 0, 0xFFFF, 0xFFFF, true⟩) State.reset = .next State.reset ∧ State.reset.Safe

/-- SWEEP_COMPLETE: every slot empty and the table READY; a READY table stays as it is (R19). That slots keep their
contents until then is the model's choice (log entry 7). -/
def Obligations.SweepCompleteEmptiesTable : Prop :=
  ∀ s : State, s.live →
    (s.adt.phase = .sweeping →
      exec .sweepComplete s = .next { s with adt := { s.adt with phase := .ready, table := [] } }) ∧
    (s.adt.phase = .ready → exec .sweepComplete s = .next s)

/-! ### What every step keeps -/

/-- Every queue stays within its places, and within their ranges stay every counter, the quotas, the items of the lane
heads, the open load stream, the settings, the clock and the straps (R31, R40, R57, R96, R111, R136, R141, R147, R148,
R151, R153, R156, R164, R167, R169). A zone's reserved is in StepKeepsReservations. That a stream whose records are used
up may stay open between the two accesses of one cell follows log entry 13, and that a time is kept as a number of
seconds or none is the state's form. -/
def Obligations.StepKeepsBounds : Prop :=
  ∀ s t : State, s.Bounded → step s = .next t → t.Bounded

/-- The table stays canonical and its records valid, filed under their keys and distinct, its fill their number, and the
records' hold fields and the hold table name each other (R14 to R17, R21, R22, R43, R48). -/
def Obligations.StepKeepsTableAndHolds : Prop :=
  ∀ s t : State, s.TableSound → step s = .next t → t.TableSound

/-- The arms, latches, timers, passages, tracker entries and waiting events of the lanes keep to the lane states they
belong to (R68, R71, R73, R74, R80, R84, R90, R96, R99 to R102, R115, R118, R124, R132). -/
def Obligations.StepKeepsLanes : Prop :=
  ∀ s t : State, s.LanesSound → step s = .next t → t.LanesSound

/-- Each zone's reserved stays the places its lanes hold and those on their way back, and no lane has more than one of
either (R156, R157, R159). R156 counts the lanes that hold a reservation; that a conversion or release waits at the ZCU
until its own row takes it, and that a lane's own are served before its next reservation, are the model's choices (log
entry 17). -/
def Obligations.StepKeepsReservations : Prop :=
  ∀ s t : State, s.ZonesSound → step s = .next t → t.ZonesSound

/-! ### The admission table -/

/-- The tests of a record image before its upsert, seen through PUT_RECORD (R7, R20, R22). -/
def Obligations.RecordImageTests : Prop :=
  (∀ k : Key, k.formed = true ↔
    (k.medium = 0x01 ∧ 6 ≤ k.length ∧ k.length ≤ 19 ∧ k.value < 10 ^ k.length) ∨
      (k.medium = 0x02 ∧ (k.length = 4 ∨ k.length = 7) ∧ k.value < 2 ^ (8 * k.length))) ∧
  ∀ (s : State) (c : MgmtCell) (rest : List MgmtCell) (im : Image),
    s.able → s.headCommand c rest → c.command = .putRecord im →
    (s.adt.phase = .sweeping → exec .putRecord s = .next (s.replied rest c .busy (.put .refused))) ∧
    (s.adt.phase = .ready →
      im.key.formed = false ∨ im.static.zones = 0 ∨ im.static.closeMinute ≤ im.static.openMinute →
      exec .putRecord s = .next (s.replied rest c .badArg (.put .refused))) ∧
    (s.adt.phase = .ready → im.key.formed = true → im.static.zones ≠ 0 →
      im.static.openMinute < im.static.closeMinute → im.key.value % s.grp.size ≠ s.grp.position →
      exec .putRecord s = .next (s.replied rest c .wrongHome (.put .refused)))

/-- A record that passes the tests is upserted: found, its static fields are replaced and all else of it is kept; not
found, it is inserted in the lowest empty slot of its bucket with the use fields of R15; in a full bucket it is refused
(R10, R15, R17, R23, R24). -/
def Obligations.PutRecordUpserts : Prop :=
  ∀ (s : State) (c : MgmtCell) (rest : List MgmtCell) (im : Image),
    s.able → s.headCommand c rest → c.command = .putRecord im → s.adt.phase = .ready →
    im.key.formed = true → im.static.zones ≠ 0 → im.static.openMinute < im.static.closeMinute →
    im.key.value % s.grp.size = s.grp.position →
    (∀ p r, s.filedAt im.key p r →
      exec .putRecord s = .next
        (((s.commandsLeft rest).writeRecord p { r with static := im.static }).reply c .ok (.put .replaced))) ∧
    (s.notFiled im.key → ∀ p, p / 8 = im.key.value / s.grp.size % 8192 → s.recordAt p = none →
      (∀ q, q < p → q / 8 = im.key.value / s.grp.size % 8192 → s.recordAt q ≠ none) →
      exec .putRecord s = .next
        (State.reply
          { s.commandsLeft rest with
            adt :=
              { s.adt with
                table := s.adt.table.write p ⟨im.key, im.static, ⟨.fresh, 0, 0⟩, false, none⟩
                fill := s.adt.fill + 1 } }
          c .ok (.put .new))) ∧
    (s.notFiled im.key → (∀ p, p / 8 = im.key.value / s.grp.size % 8192 → s.recordAt p ≠ none) →
      exec .putRecord s = .next (s.replied rest c .bucketFull (.put .refused)))

/-- The tests by which VOID_KEY, RESTORE_KEY, DROP_KEY and QUERY_KEY find their record (R25). -/
def Obligations.KeyCommandTests : Prop :=
  ∀ (s : State) (c : MgmtCell) (rest : List MgmtCell) (k : Key) (i : Instr),
    s.able → s.headCommand c rest →
    (c.command = .voidKey k ∧ i = .voidKey ∨ c.command = .restoreKey k ∧ i = .restoreKey ∨
      c.command = .dropKey k ∧ i = .dropKey ∨ c.command = .queryKey k ∧ i = .queryKey) →
    (s.adt.phase = .sweeping → exec i s = .next (s.replied rest c .busy .nothing)) ∧
    (s.adt.phase = .ready → k.formed = false → exec i s = .next (s.replied rest c .badArg .nothing)) ∧
    (s.adt.phase = .ready → k.formed = true → k.value % s.grp.size ≠ s.grp.position →
      exec i s = .next (s.replied rest c .wrongHome .nothing)) ∧
    (s.adt.phase = .ready → k.formed = true → k.value % s.grp.size = s.grp.position → s.notFiled k →
      exec i s = .next (s.replied rest c .notFound .nothing))

/-- What the four key commands do with the record they find (R26, R27, R28, R30). -/
def Obligations.KeyCommandsOnFoundRecord : Prop :=
  ∀ (s : State) (c : MgmtCell) (rest : List MgmtCell) (k : Key) (p : Nat) (r : Record),
    s.able → s.headCommand c rest → s.adt.phase = .ready → k.formed = true →
    k.value % s.grp.size = s.grp.position → s.filedAt k p r →
    (c.command = .voidKey k →
      exec .voidKey s = .next (((s.commandsLeft rest).writeRecord p { r with revoked := true }).reply c .ok .nothing)) ∧
    (c.command = .restoreKey k →
      exec .restoreKey s = .next
        (((s.commandsLeft rest).writeRecord p { r with revoked := false }).reply c .ok .nothing)) ∧
    (c.command = .dropKey k → r.hold ≠ none →
      exec .dropKey s = .next (s.replied rest c .inProgress .nothing)) ∧
    (c.command = .dropKey k → r.hold = none →
      exec .dropKey s = .next
        (State.reply
          { s.commandsLeft rest with adt := { s.adt with table := s.adt.table.erase p, fill := s.adt.fill - 1 } }
          c .ok .nothing)) ∧
    (c.command = .queryKey k → exec .queryKey s = .next (s.replied rest c .ok (.record r)))

/-- LOAD_OPEN: BUSY while sweeping, STREAM_OPEN while a stream is open, else a stream of c + 1 records (R32). -/
def Obligations.LoadOpenOpensStream : Prop :=
  ∀ (s : State) (c : MgmtCell) (rest : List MgmtCell) (count : Nat),
    s.able → s.headCommand c rest → c.command = .loadOpen count →
    (s.adt.phase = .sweeping → exec .loadOpen s = .next (s.replied rest c .busy .nothing)) ∧
    (∀ st, s.adt.phase = .ready → s.adt.stream = some st →
      exec .loadOpen s = .next (s.replied rest c .streamOpen .nothing)) ∧
    (s.adt.phase = .ready → s.adt.stream = none →
      exec .loadOpen s = .next
        (State.reply
          { s.commandsLeft rest with
            adt :=
              { s.adt with
                stream := some
                  { remaining := count + 1, taken := 0, rejected := 0, excess := 0, firstRejection := none } } }
          c .ok (.opened (count + 1))))

/-- When a LOAD_RECORDS cell is refused, and that nothing changes then (R35). -/
def Obligations.LoadRecordsRefusals : Prop :=
  ∀ (s : State) (c : MgmtCell) (rest : List MgmtCell) (count : Nat) (first second : Image) (access : LoadAccess),
    s.able → s.headCommand c rest → c.command = .loadRecords count first second →
    (s.adt.phase = .sweeping → exec (.loadRecords access) s = .next (s.replied rest c .busy .nothing)) ∧
    (s.adt.phase = .ready → s.adt.stream = none →
      exec (.loadRecords access) s = .next (s.replied rest c .noStream .nothing)) ∧
    (∀ st, s.adt.phase = .ready → s.adt.stream = some st → count = 0 ∨ 2 < count →
      exec (.loadRecords access) s = .next (s.replied rest c .badArg .nothing))

/-- A LOAD_RECORDS cell taken: its records upserted in order and counted, the second an excess when the first used the
stream up; the reply, and LOAD_DONE behind it when the remaining count is 0 (R33, R34). A cell of one record is one
access, whatever the row's operand. Of a cell whose first record has been taken alone, whatever the home did in between,
the second record is left, and the reply carries both statuses (R18, R37; log entry 13). -/
def Obligations.LoadRecordsTaken : Prop :=
  ∀ (s : State) (c : MgmtCell) (rest : List MgmtCell) (count : Nat) (first second : Image) (st : Stream)
    (access : LoadAccess),
    s.able → s.headCommand c rest → c.command = .loadRecords count first second → s.adt.phase = .ready →
    s.adt.stream = some st →
    let u1 := s.adt.upsert s.grp.position s.grp.size first
    let st1 := st.counted u1 first.key
    let u2 := u1.adt.upsert s.grp.position s.grp.size second
    let st2 := st1.counted u2 second.key
    let v := s.adt.upsert s.grp.position s.grp.size second
    let stv := st.counted v second.key
    let after (a : Adt) (x : Option Stream) : State :=
      { s with adt := { a with stream := x }, mgu := { s.mgu with queue := rest, firstLoaded := none } }
    let done (x : Stream) : Report := .loadDone x.taken x.rejected x.excess x.firstRejection false
    (s.mgu.firstLoaded = none →
      (count = 1 → 1 < st.remaining →
        exec (.loadRecords access) s = .next
          ((after u1.adt (some st1)).reply c .ok (.loaded u1.status none (st.remaining - 1)))) ∧
      (count = 1 → st.remaining = 1 →
        exec (.loadRecords access) s = .next
          (((after u1.adt none).reply c .ok (.loaded u1.status none 0)).report (done st1))) ∧
      (count = 2 → 2 < st.remaining →
        exec (.loadRecords .wholeCell) s = .next
          ((after u2.adt (some st2)).reply c .ok (.loaded u1.status (some u2.status) (st.remaining - 2)))) ∧
      (count = 2 → st.remaining = 2 →
        exec (.loadRecords .wholeCell) s = .next
          (((after u2.adt none).reply c .ok (.loaded u1.status (some u2.status) 0)).report (done st2))) ∧
      (count = 2 → st.remaining = 1 →
        exec (.loadRecords .wholeCell) s = .next
          (((after u1.adt none).reply c .ok (.loaded u1.status (some .noStream) 0)).report
            (done { st1 with excess := st1.excess + 1 })))) ∧
    ∀ taken, s.mgu.firstLoaded = some taken → count = 2 →
      (1 < st.remaining →
        exec (.loadRecords access) s = .next
          ((after v.adt (some stv)).reply c .ok (.loaded taken (some v.status) (st.remaining - 1)))) ∧
      (st.remaining = 1 →
        exec (.loadRecords access) s = .next
          (((after v.adt none).reply c .ok (.loaded taken (some v.status) 0)).report (done stv))) ∧
      (st.remaining = 0 →
        exec (.loadRecords access) s = .next
          (((after s.adt none).reply c .ok (.loaded taken (some .noStream) 0)).report
            (done { st with excess := st.excess + 1 })))

/-- The records of a two-record cell are accesses of their own: the first taken alone is upserted and counted, its
status noted, and the cell stays at the head of the queue; what is left of it then gives what the whole cell gives
(R18, R33, R37; log entry 13). -/
def Obligations.LoadAccessesAgree : Prop :=
  ∀ (s : State) (c : MgmtCell) (rest : List MgmtCell) (first second : Image) (st : Stream) (access : LoadAccess),
    s.able → s.headCommand c rest → c.command = .loadRecords 2 first second → s.adt.phase = .ready →
    s.adt.stream = some st → s.mgu.firstLoaded = none →
    let u := s.adt.upsert s.grp.position s.grp.size first
    let t : State :=
      if 0 < st.remaining then
        { s with
          adt := { u.adt with stream := some (st.counted u first.key) }
          mgu := { s.mgu with firstLoaded := some u.status } }
      else
        { s with
          adt := { s.adt with stream := some { st with excess := st.excess + 1 } }
          mgu := { s.mgu with firstLoaded := some .noStream } }
    exec (.loadRecords .oneRecord) s = .next t ∧ t.headCommand c rest ∧
      ∃ x, exec (.loadRecords access) t = .next x ∧ exec (.loadRecords .wholeCell) s = .next x

/-- LOAD_ABORT: BUSY, NO_STREAM, or the stream closed with a LOAD_DONE report behind the reply (R36). -/
def Obligations.LoadAbortClosesStream : Prop :=
  ∀ (s : State) (c : MgmtCell) (rest : List MgmtCell), s.able → s.headCommand c rest → c.command = .loadAbort →
    (s.adt.phase = .sweeping → exec .loadAbort s = .next (s.replied rest c .busy .nothing)) ∧
    (s.adt.phase = .ready → s.adt.stream = none →
      exec .loadAbort s = .next (s.replied rest c .noStream .nothing)) ∧
    (∀ st, s.adt.phase = .ready → s.adt.stream = some st →
      exec .loadAbort s = .next
        ((State.reply { s.commandsLeft rest with adt := { s.adt with stream := none } } c .ok .nothing).report
          (.loadDone st.taken st.rejected st.excess st.firstRejection true)))

/-! ### The management commands -/

/-- An unknown command is answered BAD_ARG in every condition of the part; in STRAP_FAULT every other command but
READ_GATE and GATE_CLEAR is answered BAD_STRAP; nothing changes (R155, R165). A command for a lane is an event of that
lane: while one that reached the lane before it still waits, presentations apart, its row changes nothing and the
command stays at the head of its queue (chapter 4, R72, R164). A command row whose command does not stand at the head of
the command queue changes nothing: the model's choice (log entry 2), as it is that a command reaches its lane as its row
comes; that it may overtake a presentation is read from R74 and R118 (log entry 3). -/
def Obligations.StatusBeforeTheCommandsOwn : Prop :=
  ∀ (s : State) (pins : Pins) (access : LoadAccess), s.live →
    (∀ (c : MgmtCell) (rest : List MgmtCell), s.headCommand c rest →
      (∀ code, c.command = .unknown code → exec .unknownCommand s = .next (s.replied rest c .badArg .nothing)) ∧
      (s.grp.size ≤ s.grp.position → (∀ code, c.command ≠ .unknown code) → (∀ clear, c.command ≠ .readGate clear) →
        c.command ≠ .gateClear →
        exec (c.command.row pins access) s = .next (s.replied rest c .badStrap .nothing)) ∧
      (∀ l : LaneNo, s.grp.position < s.grp.size → c.command.laneNamed = some l.val →
        (∃ e ∈ (s.lane l).events, e.isPresentation = false) → exec (c.command.row pins access) s = .next s) ∧
      (∀ d : Command, c.command.row pins access ≠ d.row pins access → exec (d.row pins access) s = .next s)) ∧
    ∀ d : Command, s.mgu.queue = [] → exec (d.row pins access) s = .next s

/-- SET_CLOCK stores the second carried, 1,048,575 at most, and the next whole second is a full second later;
CLOCK_SECOND raises a set clock by one and leaves it at 1,048,575 (R167, R168). That the row brings the moment of its
second is the model's choice (log entry 4). -/
def Obligations.ClockIsSetAndCounts : Prop :=
  (∀ (s : State) (c : MgmtCell) (rest : List MgmtCell) (second : Nat),
    s.able → s.headCommand c rest → c.command = .setClock second →
    (second ≤ 1048575 →
      exec .setClock s = .next
        (State.reply
          { s with mgu := { s.mgu with queue := rest, clock := some second, nextSecond := s.timebase + 1000 } }
          c .ok (.clock second))) ∧
    (1048575 < second →
      exec .setClock s = .next
        (State.reply
          { s with mgu := { s.mgu with queue := rest, clock := some 1048575, nextSecond := s.timebase + 1000 } }
          c .okClamped (.clock 1048575)))) ∧
  ∀ s : State, s.live →
    (s.mgu.clock = none → exec .clockSecond s = .next s) ∧
    ∀ v, s.mgu.clock = some v →
      exec .clockSecond s = .next
        { s with
          timebase := max s.timebase s.mgu.nextSecond
          mgu :=
            { s.mgu with
              clock := some (if v < 1048575 then v + 1 else v), nextSecond := s.mgu.nextSecond + 1000 } }

/-- The event clock never decreases but by SET_CLOCK, and becomes UNSET only by a reset (R167). -/
def Obligations.ClockNeverFallsOtherwise : Prop :=
  ∀ (c : Instr) (s t : State) (v : Nat), exec c s = .next t → s.mgu.clock = some v → c ≠ .setClock →
    (∀ pins, c ≠ .powerOn pins) → (∀ pins, c ≠ .gateClear pins) → ∃ w, t.mgu.clock = some w ∧ v ≤ w

/-- SET_GATE replaces the three settings together: the timeout lowered to a multiple of 10 ms, then both values moved
to the nearer end of their ranges (R169). -/
def Obligations.SetGateStoresSettings : Prop :=
  ∀ (s : State) (c : MgmtCell) (rest : List MgmtCell) (timeout limit : Nat) (mask : Byte),
    s.able → s.headCommand c rest → c.command = .setGate timeout limit mask →
    ∃ g : Settings,
      (timeout < 110 → g.claimTimeout = 100) ∧ (2000 ≤ timeout → g.claimTimeout = 2000) ∧
      (110 ≤ timeout → timeout < 2000 → g.claimTimeout = timeout - timeout % 10) ∧
      (limit ≤ 10 → g.holdLimit = 10) ∧ (120 ≤ limit → g.holdLimit = 120) ∧
      (10 < limit → limit < 120 → g.holdLimit = limit) ∧
      g.mask = ⟨mask.getLsbD 0, mask.getLsbD 1, mask.getLsbD 2⟩ ∧
      exec .setGate s = .next
        (State.reply { s with mgu := { s.mgu with queue := rest, settings := g } } c
          (if timeout % 10 = 0 ∧ 100 ≤ timeout ∧ timeout ≤ 2000 ∧ 10 ≤ limit ∧ limit ≤ 120 then .ok else .okClamped)
          (.settings g))

/-- READ_GATE in every condition of the part: each value as its owner holds it, the thirteen counters set to 0 with the
clear flag, and nothing else changed (R21, R64, R110, R141, R151, R170, R171; log entry 14). -/
def Obligations.ReadGateReturnsAndClears : Prop :=
  ∀ (s : State) (c : MgmtCell) (rest : List MgmtCell) (clear : Bool),
    s.live → s.headCommand c rest → c.command = .readGate clear →
    let g : GateReadout :=
      { position := s.grp.position, size := s.grp.size, strapFault := s.grp.size ≤ s.grp.position
        ringUp := s.grp.ringUp, ringCounters := s.grp.counters
        transitFill := s.grp.transit.length, localFill := s.grp.localQueue.length
        generalFill := s.grp.localQueue.countP (·.body.general)
        tableStatus :=
          if s.adt.phase = .sweeping then .sweeping else if s.adt.stream.isSome then .loading else .ready
        remaining := if s.adt.phase = .sweeping then 0 else (s.adt.stream.map (·.remaining)).getD 0
        tableFill := s.adt.fill, intakeFill := s.hdu.intake.length
        holdCount := (List.finRange 64).countP fun i => (s.holdAt i).isSome
        noticeDrops := s.hdu.noticeDrops, strayAbandons := s.hdu.strayAbandons
        trackerEntries := (List.finRange 16).countP fun l => (s.place l).isSome
        logFill := s.clt.log.length, lateVerdicts := s.clt.lateVerdicts, unloggedExits := s.clt.unloggedExits
        logDrops := s.clt.logDrops, emergencyLatched := s.tlu.latched, emergencyInput := s.tlu.inputActive
        clock := s.mgu.clock, settings := s.mgu.settings, commandFill := rest.length
        commandDrops := s.mgu.commandDrops }
    (clear = false → exec .readGate s = .next (s.replied rest c .ok (.gate g))) ∧
    (clear = true → exec .readGate s = .next
      (State.reply
        { s with
          grp := { s.grp with counters := ⟨0, 0, 0, 0, 0, 0, 0⟩ }
          hdu := { s.hdu with noticeDrops := 0, strayAbandons := 0 }
          clt := { s.clt with lateVerdicts := 0, unloggedExits := 0, logDrops := 0 }
          mgu := { s.mgu with queue := rest, commandDrops := 0 } }
        c .ok (.gate g)))

/-- EMERGENCY_CLEAR: ACTIVE while the input is active; nothing to do on a CLEAR latch; else the latch is cleared, every
lane is handed the clearing, and the report with the whole seconds the latch was SET follows the reply (R109). -/
def Obligations.EmergencyClearCases : Prop :=
  ∀ (s : State) (c : MgmtCell) (rest : List MgmtCell), s.able → s.headCommand c rest → c.command = .emergencyClear →
    (s.tlu.inputActive = true → exec .emergencyClear s = .next (s.replied rest c .active .nothing)) ∧
    (s.tlu.inputActive = false → s.tlu.latched = false →
      exec .emergencyClear s = .next (s.replied rest c .ok .nothing)) ∧
    (s.tlu.inputActive = false → s.tlu.latched = true →
      ∃ u : State, (∀ l, u.lane l = { s.lane l with events := (s.lane l).events ++ [.latchClearing] }) ∧
        u = { s.commandsLeft rest with lanes := u.lanes, tlu := { s.tlu with latched := false } } ∧
        exec .emergencyClear s = .next
          ((u.reply c .ok .nothing).report (.emergencyCleared (min 65535 ((s.timebase - s.tlu.setAt) / 1000)))))

/-! ### The zones -/

/-- SET_ZONE and READ_ZONE in STRAP_FAULT, for a zone above 7, and carried out (R161, R163). -/
def Obligations.ZoneCommands : Prop :=
  ∀ (s : State) (c : MgmtCell) (rest : List MgmtCell), s.live → s.headCommand c rest →
    (∀ n quota, c.command = .setZone n quota →
      (s.grp.size ≤ s.grp.position → exec .setZone s = .next (s.replied rest c .badStrap .nothing)) ∧
      (s.grp.position < s.grp.size → 7 < n → exec .setZone s = .next (s.replied rest c .badArg .nothing)) ∧
      (∀ z : ZoneNo, s.grp.position < s.grp.size → n = z.val →
        exec .setZone s = .next
          (((s.commandsLeft rest).modZone z fun r => { r with quota := quota }).reply c .ok (.quota quota)))) ∧
    (∀ n clear, c.command = .readZone n clear →
      (s.grp.size ≤ s.grp.position → exec .readZone s = .next (s.replied rest c .badStrap .nothing)) ∧
      (s.grp.position < s.grp.size → 7 < n → exec .readZone s = .next (s.replied rest c .badArg .nothing)) ∧
      (∀ z : ZoneNo, s.grp.position < s.grp.size → n = z.val → clear = false →
        exec .readZone s = .next (s.replied rest c .ok (.zone (s.zone z)))) ∧
      (∀ z : ZoneNo, s.grp.position < s.grp.size → n = z.val → clear = true →
        exec .readZone s = .next
          (((s.commandsLeft rest).modZone z fun r => { r with underflow := 0 }).reply c .ok (.zone (s.zone z)))))

/-- The oldest request a lane has waiting at the ZCU is taken by the row that names it: a conversion, a release, an
exit; by the other two rows it is not (R158, R159, R160; log entries 2 and 17). -/
def Obligations.ZoneRequestsTaken : Prop :=
  ∀ (s : State) (l : LaneNo) (before after : List ZoneRequest) (z : ZoneNo) (ask : ZoneAsk), s.live →
    s.zcu.requests = before ++ ⟨l, z, ask⟩ :: after → (∀ x ∈ before, x.lane ≠ l) →
    let left : State := { s with zcu := { s.zcu with requests := before ++ after } }
    (exec (.zoneConvert l) s = .next
      (if ask = .convert then
        left.modZone z fun r =>
          { r with reserved := r.reserved - 1, count := if r.count < 65535 then r.count + 1 else r.count }
      else s)) ∧
    (exec (.zoneRelease l) s = .next
      (if ask = .release then left.modZone z fun r => { r with reserved := r.reserved - 1 } else s)) ∧
    (exec (.zoneExit l) s = .next
      (if ask = .exit then
        left.modZone z fun r =>
          if r.count = 0 then { r with underflow := if r.underflow < 65535 then r.underflow + 1 else r.underflow }
          else { r with count := r.count - 1 }
      else s))

/-! ### The lane commands -/

/-- How a passage begins, whatever begins it: AWAIT_PASS, the arm freed, the latch armed, or captured with a rotation
handed over at once when the sensor is active, the pass timer started with the pass window, the indication shown
(R84, R97, R100, R101, R104). -/
def Obligations.PassageBegins : Prop :=
  ∀ (s : State) (l : LaneNo) (p : Passage) (i : Indication),
    s.beginPassage l p i =
      s.atLane l
        (fun ln =>
          { ln with
            passage := some p, state := .awaitPass
            events := if (s.line l).sensorActive then ln.events ++ [.rotation true] else ln.events })
        id
        (fun x =>
          { x with
            arm := .free, latch := if x.sensorActive then .captured else .armed
            passTimer := some (s.timebase + (s.lane l).config.passWindow * 1000)
            indication := i, shownSince := s.timebase })

/-- How a lane ends its work in flight (R92, R132, R136, R137, R159): what the lane gives back, by its state, before its
presentation and passage are cleared. `dropPending` takes the lane's one PENDING record out of the log. -/
def Obligations.WorkInFlightEnds : Prop :=
  ∀ (s : State) (l : LaneNo),
    let ln := s.lane l
    let cleared (x : State) : State := x.modLane l fun ln => { ln with current := none, passage := none }
    let given (x : State) : State := cleared (x.withRequests (ln.releaseRequest l))
    let unlogged : State := { s with clt := { s.clt with log := dropPending l s.clt.log } }
    (ln.state = .validating → (s.place l).isSome → s.endWork l = given (s.setPlace l none)) ∧
    (ln.state = .validating → s.place l = none → s.endWork l = given unlogged) ∧
    (∀ t k time r, ln.state = .awaitPass → ln.passage = some ⟨.granted, some t, r⟩ → ln.current = some ⟨k, time⟩ →
      s.endWork l = given (s.sendNotice (.abandon t k) k)) ∧
    (∀ t r, ln.state = .awaitPass → ln.passage = some ⟨.provisional, t, r⟩ → s.endWork l = given unlogged) ∧
    (∀ t r, ln.state = .awaitPass → ln.passage = some ⟨.manual, t, r⟩ ∨ ln.passage = some ⟨.unchecked, t, r⟩ →
      s.endWork l = given s) ∧
    (ln.state ≠ .validating → ln.state ≠ .awaitPass → s.endWork l = cleared s) ∧
    (∀ before r after, s.clt.log = before ++ r :: after → (∀ x ∈ before, x.lane ≠ l.val ∨ x.state ≠ .pending) →
      r.lane = l.val → r.state = .pending → dropPending l s.clt.log = before ++ after) ∧
    ((∀ x ∈ s.clt.log, x.lane ≠ l.val ∨ x.state ≠ .pending) → dropPending l s.clt.log = s.clt.log)

/-- SET_LANE: BAD_ARG, LANE_STATE, or the whole configuration replaced with the windows moved into their ranges; a lane
that loses its head loses what the port holds for it (R69, R118, R122, R123). A lane of this part is asked in its turn
(R72; log entry 3). A fitted byte that is neither 00H nor 01H is a free value (log entry 11). -/
def Obligations.SetLaneConfigures : Prop :=
  ∀ (s : State) (c : MgmtCell) (rest : List MgmtCell) (lane : Nat) (fitted direction : Byte) (zone : Nat)
    (classes : BitVec 16) (priority : Byte) (pw ew sl : Nat) (policy : Byte),
    s.able → s.headCommand c rest →
    c.command = .setLane lane fitted direction zone classes priority pw ew sl policy →
    (∀ l : LaneNo, lane = l.val → s.turnOf l) →
    (15 < lane ∨ 7 < zone ∨ 1 < direction.toNat ∨ 1 < priority.toNat ∨ 1 < policy.toNat →
      exec .setLane s = .next (s.replied rest c .badArg .nothing)) ∧
    ∀ (l : LaneNo) (z : ZoneNo), lane = l.val → zone = z.val → direction.toNat ≤ 1 → priority.toNat ≤ 1 →
      policy.toNat ≤ 1 →
      let config (b : Bool) : LaneConfig :=
        { fitted := b, direction := if direction = 0 then .entry else .exit, zone := z, classes := classes
          priority := if priority = 0 then .normal else .high
          passWindow := max 2 (min 30 pw), echoWindow := min 5 ew, staleLimit := max 1 (min 10 sl)
          policy := if policy = 0 then .refuse else .provisional }
      let status : Status :=
        if 2 ≤ pw ∧ pw ≤ 30 ∧ ew ≤ 5 ∧ 1 ≤ sl ∧ sl ≤ 10 then .ok else .okClamped
      let left := s.commandsLeft rest
      let kept (x : State) (b : Bool) : State := x.modLane l fun ln => { ln with config := config b }
      let bared (x : State) : State :=
        let y := x.atLane l
          (fun ln => { ln with config := config false, events := ln.events.filter fun e => !e.isPresentation })
          (fun _ => { linked := true, missed := 0, offered := 0, room := 0, inHand := false, waiting := none }) id
        { y with lbp := { y.lbp with underWay := s.lbp.underWay.map (Transaction.discardFor l) } }
      let drawn : State := { left with freeCount := s.freeCount + 1 }
      ((s.lane l).state ≠ .closed → exec .setLane s = .next (s.replied rest c .laneState .nothing)) ∧
      ((s.lane l).state = .closed → fitted = 1 →
        exec .setLane s = .next ((kept left true).reply c status .nothing)) ∧
      ((s.lane l).state = .closed → fitted = 0 → (s.lane l).config.fitted = false →
        exec .setLane s = .next ((kept left false).reply c status .nothing)) ∧
      ((s.lane l).state = .closed → fitted = 0 → (s.lane l).config.fitted = true →
        exec .setLane s = .next ((bared left).reply c status .nothing)) ∧
      ((s.lane l).state = .closed → fitted ≠ 0 → fitted ≠ 1 →
        exec .setLane s = .next ((kept drawn true).reply c status .nothing) ∨
          exec .setLane s = .next
            ((if (s.lane l).config.fitted then bared drawn else kept drawn false).reply c status .nothing))

/-- LANE_OPEN and LANE_CLOSE, taken by the lane in its turn (R72, R90, R91; R71 and R102 for the lines; log entry 3). -/
def Obligations.LaneOpenAndClose : Prop :=
  ∀ (s : State) (c : MgmtCell) (rest : List MgmtCell), s.able → s.headCommand c rest →
    (∀ n, 15 < n →
      (c.command = .laneOpen n → exec .laneOpen s = .next (s.replied rest c .badArg .nothing)) ∧
      (c.command = .laneClose n → exec .laneClose s = .next (s.replied rest c .badArg .nothing))) ∧
    ∀ l : LaneNo, s.turnOf l →
      (c.command = .laneOpen l.val →
        ((s.lane l).config.fitted = false → exec .laneOpen s = .next (s.replied rest c .laneState .nothing)) ∧
        ((s.lane l).config.fitted = true → s.mgu.clock = none →
          exec .laneOpen s = .next (s.replied rest c .noClock .nothing)) ∧
        ((s.lane l).config.fitted = true → s.mgu.clock ≠ none → (s.lane l).state = .closed →
          exec .laneOpen s = .next
            (((s.commandsLeft rest).atLane l (fun ln => { ln with openIntent := true, state := .idle }) id
              fun x => { x with cancelSet := false }).reply c .ok .nothing)) ∧
        ((s.lane l).config.fitted = true → s.mgu.clock ≠ none → (s.lane l).state ≠ .closed →
          exec .laneOpen s = .next
            (((s.commandsLeft rest).modLane l fun ln => { ln with openIntent := true }).reply c .ok .nothing))) ∧
      (c.command = .laneClose l.val →
        ((s.lane l).state = .idle →
          exec .laneClose s = .next
            (((s.commandsLeft rest).atLane l (fun ln => { ln with openIntent := false, state := .closed }) id
              fun x => { x with cancelSet := false, indication := .dark, shownSince := s.timebase }).reply
              c .ok .nothing)) ∧
        ((s.lane l).state ≠ .idle →
          exec .laneClose s = .next
            (((s.commandsLeft rest).modLane l fun ln => { ln with openIntent := false }).reply c .ok .nothing)))

/-- LANE_RESET: the work in flight ended, the echo record, the waiting disposition and a presentation on its way
cleared, the intent no; CLOSED with the arm locked, but RELEASED stays RELEASED (R93, R118, R121, R122). The lane takes it
in its turn (R72; log entry 3). -/
def Obligations.LaneResetCloses : Prop :=
  ∀ (s : State) (c : MgmtCell) (rest : List MgmtCell), s.able → s.headCommand c rest →
    (∀ n, 15 < n → c.command = .laneReset n → exec .laneReset s = .next (s.replied rest c .badArg .nothing)) ∧
    ∀ l : LaneNo, s.turnOf l → c.command = .laneReset l.val →
      let left := s.commandsLeft rest
      let ended (st : LaneState) (lines : Lines → Lines) : State :=
        let y := (left.endWork l).atLane l
          (fun ln =>
            { ln with
              echo := none, openIntent := false, state := st
              events := ln.events.filter fun e => !e.isPresentation })
          (fun h => { h with waiting := none, inHand := false }) lines
        { y with lbp := { y.lbp with underWay := s.lbp.underWay.map (Transaction.discardFor l) } }
      ((s.lane l).state = .released →
        exec .laneReset s = .next ((ended .released id).reply c .ok .nothing)) ∧
      ((s.lane l).state ≠ .released →
        exec .laneReset s = .next
          ((ended .closed fun x =>
            { x with
              arm := .locked, latch := .disarmed, passTimer := none, cancelSet := false, indication := .dark
              shownSince := s.timebase }).reply c .ok .nothing))

/-- LANE_RELEASE: LANE_STATE outside IDLE; a MANUAL passage on an EXIT lane, and on an ENTRY lane when its zone has room
(R89, R157). The lane takes it in its turn, so that no expiry, rotation or cancel of an earlier passage meets the new one
(R72, section 5.3; log entry 3). The lane's own zone requests are served first (log entry 17). -/
def Obligations.LaneReleaseBeginsManualPassage : Prop :=
  ∀ (s : State) (c : MgmtCell) (rest : List MgmtCell), s.able → s.headCommand c rest →
    (∀ n, 15 < n → c.command = .laneRelease n → exec .laneRelease s = .next (s.replied rest c .badArg .nothing)) ∧
    ∀ l : LaneNo, s.turnOf l → c.command = .laneRelease l.val →
      let left := s.commandsLeft rest
      let served := left.serveZoneAll l
      let z := (s.lane l).config.zone
      ((s.lane l).state ≠ .idle → exec .laneRelease s = .next (s.replied rest c .laneState .nothing)) ∧
      ((s.lane l).state = .idle → (s.lane l).config.direction = .exit →
        exec .laneRelease s = .next
          ((left.beginPassage l ⟨.manual, none, none⟩ .grant).reply c .ok .nothing)) ∧
      ((s.lane l).state = .idle → (s.lane l).config.direction = .entry →
        (served.zone z).count + (served.zone z).reserved < (served.zone z).quota →
        exec .laneRelease s = .next
          (((served.modZone z fun r => { r with reserved := r.reserved + 1 }).beginPassage l
            ⟨.manual, none, none⟩ .grant).reply c .ok .nothing)) ∧
      ((s.lane l).state = .idle → (s.lane l).config.direction = .entry →
        (served.zone z).quota ≤ (served.zone z).count + (served.zone z).reserved →
        exec .laneRelease s = .next (served.reply c .zoneFull .nothing))

/-- READ_LANE: the lane's values as they stand in its turn, its six counters set to 0 with the clear flag (R72, R96; log
entry 3). -/
def Obligations.ReadLaneReturnsAndClears : Prop :=
  ∀ (s : State) (c : MgmtCell) (rest : List MgmtCell) (clear : Bool), s.able → s.headCommand c rest →
    (∀ n, 15 < n → c.command = .readLane n clear → exec .readLane s = .next (s.replied rest c .badArg .nothing)) ∧
    ∀ l : LaneNo, s.turnOf l → c.command = .readLane l.val clear →
      let ln := s.lane l
      let data : ReplyData := .lane
        { config := ln.config, state := ln.state, openIntent := ln.openIntent, seq := ln.seq
          origin := ln.passage.map (·.origin), last := ln.last, counters := ln.counters }
      (clear = false → exec .readLane s = .next (s.replied rest c .ok data)) ∧
      (clear = true →
        exec .readLane s = .next
          (((s.commandsLeft rest).modLane l fun ln => { ln with counters := ⟨0, 0, 0, 0, 0, 0⟩ }).reply c .ok data))

/-! ### The gate ring -/

/-- How the local transmit queue and the intake queue share their places, and what becomes of what finds none (R40,
R42, R148); and which reports the mask holds back (R173). That the HOME_BUSY verdict for a requester part above 15 goes
to the low nibble of its number is the model's choice (log entry 21). -/
def Obligations.QueuesShareTheirPlaces : Prop :=
  (∀ (s : State) (c : LocalCell),
    let general (x : LocalCell) : Bool := !([0x02, 0x03, 0x04] : List Byte).contains x.body.type
    let full : Prop :=
      32 ≤ s.grp.localQueue.length ∨ general c = true ∧ 24 ≤ (s.grp.localQueue.filter general).length
    (¬full → s.offer c = { s with grp := { s.grp with localQueue := s.grp.localQueue ++ [c] } }) ∧
    (full → c.body.type = 0x01 ∨ c.body.type = 0x05 → s.offer c = s) ∧
    (full → c.body.type ≠ 0x01 → c.body.type ≠ 0x05 →
      s.offer c =
        { s with
          grp :=
            { s.grp with
              counters :=
                { s.grp.counters with
                  transmitDrops :=
                    if s.grp.counters.transmitDrops < 65535 then s.grp.counters.transmitDrops + 1
                    else s.grp.counters.transmitDrops } } })) ∧
  (∀ (s : State) (e : Intake),
    let queued : State := { s with hdu := { s.hdu with intake := s.hdu.intake ++ [e] } }
    (∀ t k kind time zone classes, e = .claim t k kind time zone classes →
      (s.hdu.intake.length < 32 → s.offerIntake e = queued) ∧
      (32 ≤ s.hdu.intake.length → t.part = s.grp.position →
        s.offerIntake e = { s with clt := { s.clt with inbox := s.clt.inbox ++ [⟨none, t, k, some .homeBusy, 0⟩] } }) ∧
      (32 ≤ s.hdu.intake.length → t.part ≠ s.grp.position →
        s.offerIntake e = s.offer ⟨t.part % 16, .verdict t k .homeBusy 0⟩)) ∧
    (e.isClaim = false →
      (s.hdu.intake.length < 48 → s.offerIntake e = queued) ∧
      (48 ≤ s.hdu.intake.length →
        s.offerIntake e =
          { s with
            hdu :=
              { s.hdu with
                noticeDrops :=
                  if s.hdu.noticeDrops < 65535 then s.hdu.noticeDrops + 1 else s.hdu.noticeDrops } }))) ∧
  ∀ (s : State) (r : Report),
    let m := s.mgu.settings.mask
    let held : Prop :=
      r.code = 0x01 ∧ m.passage = false ∨ r.code = 0x02 ∧ m.forced = false ∨ r.code = 0x03 ∧ m.provisional = false
    (held → s.report r = s) ∧ (¬held → s.report r = s.offer ⟨15, .timed r s.mgu.clock⟩)

/-- A cell received: one with a wrong check is counted; a good one feeds the ring watch and then is IDLE, for this
part, of this part, at its last hop, or forwarded with its hop count one lower (R144, R145, R146, R147, R150, R164).
What is no cell of 64 bytes is passed over, and a forwarded cell keeps its spare bits: the model's choices (log entries
20 and 26). -/
def Obligations.RingCellCases : Prop :=
  ∀ (s : State) (cell : List Byte), s.live →
    (cell.length ≠ 64 → exec (.ringCellReceived cell) s = .next s) ∧
    (cell.length = 64 →
      let good : Prop := cell.drop 62 = crcBytes (cell.take 62)
      let destination := (cell.getD 0 0).toNat % 16
      let source := (cell.getD 1 0).toNat % 16
      let type := cell.getD 2 0
      let hops := (cell.getD 3 0).toNat % 16
      let payload := (cell.drop 6).take 56
      let result (t : State) : Prop := exec (.ringCellReceived cell) s = .next t
      let up (n : Nat) : Nat := if n < 65535 then n + 1 else n
      let counted (t : State) (f : RingCounters → RingCounters) : State :=
        { t with grp := { t.grp with counters := f t.grp.counters } }
      let watched : State := { s with grp := { s.grp with ringUp := true, lastGood := s.timebase } }
      let u : State :=
        if s.grp.ringUp then watched
        else
          watched.report
            (.ringUp (min 65535 ((s.timebase - s.grp.downSince) / 1000)) s.grp.counters.ringDowns)
      (¬good → result (counted s fun c => { c with checkErrors := up c.checkErrors })) ∧
      (good → type = 0x00 → result u) ∧
      (good → destination = s.grp.position →
        (∀ e, intakeOf type payload = some e → result (u.offerIntake e)) ∧
        (type = 0x02 →
          result { u with clt := { u.clt with inbox := u.clt.inbox ++ [verdictOf source payload] } }) ∧
        (type = 0x06 → s.mgu.queue.length < 4 →
          result { u with mgu := { u.mgu with queue := u.mgu.queue ++ [mgmtOf source payload] } }) ∧
        (type = 0x06 → 4 ≤ s.mgu.queue.length →
          result { u with mgu := { u.mgu with commandDrops := up u.mgu.commandDrops } }) ∧
        (type ≠ 0x00 → intakeOf type payload = none → type ≠ 0x02 → type ≠ 0x06 →
          result (counted u fun c => { c with strayCells := up c.strayCells }))) ∧
      (good → destination ≠ s.grp.position → source = s.grp.position →
        (∀ t k kind time zone classes, intakeOf type payload = some (.claim t k kind time zone classes) →
          result (u.claimReturned t k)) ∧
        (∀ part lane k kind time, intakeOf type payload = some (.lateUse part lane k kind time) →
          result (u.lateUseReturned lane k kind time)) ∧
        (type ≠ 0x00 → type ≠ 0x01 → type ≠ 0x05 →
          result (counted u fun c => { c with returnedDrops := up c.returnedDrops }))) ∧
      (good → type ≠ 0x00 → destination ≠ s.grp.position → source ≠ s.grp.position →
        (hops = 0 → result (counted u fun c => { c with hopExpiries := up c.hopExpiries })) ∧
        (0 < hops → s.grp.transit.length < 8 →
          result
            { u with
              grp := { u.grp with transit := u.grp.transit ++ [(cell.take 62).set 3 (cell.getD 3 0 - 1)] } }) ∧
        (0 < hops → 8 ≤ s.grp.transit.length →
          result (counted u fun c => { c with transitOverruns := up c.transitOverruns }))))

/-- 50 ms without a good cell: the ring is DOWN, counted and reported, and every REMOTE claim is unreachable (R130,
R150, R175). The lanes' ascending order, and that the row brings its own moment, are the model's choices (log entries
4 and 22). -/
def Obligations.RingDownTimeout : Prop :=
  ∀ s : State, s.live →
    (s.grp.ringUp = false → exec .ringDownTimeout s = .next s) ∧
    (s.grp.ringUp = true →
      let downs :=
        if s.grp.counters.ringDowns < 65535 then s.grp.counters.ringDowns + 1 else s.grp.counters.ringDowns
      let moment := max s.timebase (s.grp.lastGood + 50)
      let down : State :=
        State.report
          { s with
            timebase := moment
            grp :=
              { s.grp with
                ringUp := false, downSince := moment
                counters := { s.grp.counters with ringDowns := downs } } }
          (.ringDown downs)
      exec .ringDownTimeout s = .next
        ((List.finRange 16).foldl
          (fun t l =>
            match t.place l with
            | some e => if e.mode = .remote then t.unreachable l e else t
            | none => t)
          down))

/-- The output arbiter: one cell after another, the two queues in turn while both wait, an IDLE cell while neither does
(R143, R149). -/
def Obligations.OutputArbiter : Prop :=
  ∀ s : State, s.live →
    let g := s.grp
    let sends (x : Grp) : Prop := exec .outputCellEnd s = .next { s with grp := x }
    (∀ t ts, g.transit = t :: ts → g.localQueue = [] ∨ g.prefer = .transit →
      sends { g with transit := ts, prefer := .ownCells, sending := t ++ crcBytes t }) ∧
    (∀ c cs, g.localQueue = c :: cs → g.transit = [] ∨ g.prefer = .ownCells →
      sends { g with localQueue := cs, prefer := .transit, sending := c.wire g.position }) ∧
    (g.transit = [] → g.localQueue = [] →
      let body : List Byte := [15, BitVec.ofNat 8 g.position, 0, 15] ++ List.replicate 58 0
      sends { g with sending := body ++ crcBytes body })

/-- What this part sends is read back as it was meant: the header of a cell it originates, the entry or the verdict it
carries; and a forwarded cell has a right check and keeps its addresses, type and payload, its hop count one lower (R42,
R143, R144, R147, section 11.2). -/
def Obligations.RingCellRoundTrip : Prop :=
  (∀ (c : LocalCell) (p : Nat), p < 16 →
    let w := c.wire p
    w.length = 64 ∧ goodCheck w = true ∧ cellDestination w = c.destination % 16 ∧ cellSource w = p ∧
    cellType w = c.body.type ∧ cellHops w = 15 ∧
    (∀ e, c.body = .intake e → e.fits → intakeOf (cellType w) (cellPayload w) = some e) ∧
    (∀ t k name argument, c.body = .verdict t k name argument → t.fits → k.fits → argument < 256 →
      verdictOf (cellSource w) (cellPayload w) = ⟨some p, t, k, some name, argument⟩)) ∧
  ∀ cell : List Byte, cell.length = 64 → 0 < cellHops cell →
    let w := withCheck (forwarded cell)
    w.length = 64 ∧ goodCheck w = true ∧ cellDestination w = cellDestination cell ∧ cellSource w = cellSource cell ∧
    cellType w = cellType cell ∧ cellPayload w = cellPayload cell ∧ cellHops w = cellHops cell - 1

/-! ### Home decisions and holds -/

/-- The tables by which the home decides a claim and computes a use, row by row in their order (R44, R45, R46, R47,
R53). -/
def Obligations.DecisionTables : Prop :=
  (∀ (r : Record) (t zone : Nat) (classes : BitVec 16) (free : Bool),
    let minutes (seconds : Nat) : Nat := min 255 (if seconds % 60 = 0 then seconds / 60 else seconds / 60 + 1)
    let elapsed := if r.uses.lastExit ≤ t then t - r.uses.lastExit else 0
    let wait : Int := r.static.cooldown * 60 - elapsed
    let rows : List (Bool × Verdict × Nat) :=
      [(r.revoked, .void, 0),
        (!classes.getLsbD r.static.cls, .wrongLane, 0),
        (!r.static.zones.getLsbD zone, .wrongZone, 0),
        (t < r.static.openMinute * 60, .tooEarly, minutes (r.static.openMinute * 60 - t)),
        (r.static.closeMinute * 60 ≤ t, .tooLate, 0),
        (r.hold.isSome, .inProgress, 0),
        (r.uses.use = .inside, .alreadyIn, 0),
        (r.uses.use = .outside ∧ r.static.allowance ≤ r.uses.reentries, .noReentry, 0),
        (r.uses.use = .outside ∧ 0 < wait, .cooldown, minutes wait.toNat),
        (!free, .homeBusy, 0),
        (r.uses.use = .fresh, .admitFresh, 0),
        (r.uses.use = .outside, .admitReentry, 0)]
    some (claimVerdict (some r) ⟨.entry, t, zone, classes⟩ free) = (rows.find? (·.1)).map (·.2)) ∧
  (∀ (r : Record) (t zone : Nat) (classes : BitVec 16) (free : Bool),
    let rows : List (Bool × Verdict × Nat) :=
      [(r.uses.use ≠ .inside, .exitUnmatched, 0),
        (r.hold.isSome, .inProgress, 0),
        (!free, .homeBusy, 0),
        (true, .exitOk, 0)]
    some (claimVerdict (some r) ⟨.exit, t, zone, classes⟩ free) = (rows.find? (·.1)).map (·.2)) ∧
  (∀ (t zone : Nat) (classes : BitVec 16) (free : Bool),
    claimVerdict none ⟨.entry, t, zone, classes⟩ free = (.unknown, 0) ∧
    claimVerdict none ⟨.exit, t, zone, classes⟩ free = (.exitUnmatched, 0)) ∧
  ∀ (reentries lastExit time : Nat),
    useOutcome .entry time ⟨.fresh, reentries, lastExit⟩ = ⟨.inside, reentries, lastExit⟩ ∧
    useOutcome .entry time ⟨.outside, reentries, lastExit⟩ = ⟨.inside, min 15 (reentries + 1), lastExit⟩ ∧
    useOutcome .entry time ⟨.inside, reentries, lastExit⟩ = ⟨.inside, reentries, lastExit⟩ ∧
    useOutcome .exit time ⟨.inside, reentries, lastExit⟩ = ⟨.outside, reentries, time⟩ ∧
    useOutcome .exit time ⟨.fresh, reentries, lastExit⟩ = ⟨.fresh, reentries, lastExit⟩ ∧
    useOutcome .exit time ⟨.outside, reentries, lastExit⟩ = ⟨.outside, reentries, lastExit⟩

/-- A claim taken by the home: HOME_BUSY while sweeping; the verdict of the tables, which changes nothing unless it
grants; a grant holds the record in the lowest free entry; and a live hold with the claim's tag is lapsed first (R17,
R20, R42, R43, R49, R51, R61). No live hold is overdue here: that case is OverdueHoldsLapseFirst. That the verdict for
a requester part above 15 goes to the low nibble of its number is the model's choice (log entry 21), and so is that
HOME_BUSY comes first when the part is in STRAP_FAULT as well (log entry 34). -/
def Obligations.ClaimDecided : Prop :=
  ∀ (s : State) (t : Tag) (k : Key) (kind : Kind) (time zone : Nat) (classes : BitVec 16) (rest : List Intake),
    s.live → s.noneOverdue → s.hdu.intake = .claim t k kind time zone classes :: rest →
    let left := s.intakeLeft rest
    let answered (x : State) (v : Verdict × Nat) : State :=
      if t.part = s.grp.position then
        { x with clt := { x.clt with inbox := x.clt.inbox ++ [⟨none, t, k, some v.1, v.2⟩] } }
      else x.offer ⟨t.part % 16, .verdict t k v.1 v.2⟩
    ((∀ i h, s.holdAt i = some h → h.tag ≠ t) →
      (s.adt.phase = .sweeping → exec .claim s = .next (answered left (.homeBusy, 0))) ∧
      (∀ free, s.adt.phase = .ready → s.notFiled k →
        exec .claim s = .next (answered left (claimVerdict none ⟨kind, time, zone, classes⟩ free))) ∧
      (∀ p r, s.adt.phase = .ready → s.filedAt k p r →
        let v (free : Bool) := claimVerdict (some r) ⟨kind, time, zone, classes⟩ free
        ((∀ i, s.holdAt i ≠ none) → exec .claim s = .next (answered left (v false))) ∧
        (∀ i, s.holdAt i = none → (∀ j, j < i → s.holdAt j ≠ none) →
          ((v true).1 = .admitFresh ∨ (v true).1 = .admitReentry ∨ (v true).1 = .exitOk →
            exec .claim s = .next
              (answered
                ((left.writeRecord p { r with hold := some i }).setHold i
                  (some
                    { tag := t, position := p, kind := kind, snapshot := r.uses
                      deadline := s.timebase + s.mgu.settings.holdLimit * 1000 }))
                (v true))) ∧
          ((v true).1 ≠ .admitFresh → (v true).1 ≠ .admitReentry → (v true).1 ≠ .exitOk →
            exec .claim s = .next (answered left (v true)))))) ∧
    ∀ i h r, s.holdAt i = some h → h.tag = t → (∀ j g, s.holdAt j = some g → g.tag = t → j = i) →
      s.recordAt h.position = some r →
      exec .claim s =
        exec .claim
          (((s.writeRecord h.position { r with uses := h.snapshot, hold := none }).setHold i none).report
            (.holdLapsed t r.key h.kind .tagReuse h.snapshot.use))

/-- A PASSED that matches a live hold commits it with the outcome of its kind and snapshot, an ABANDON that matches one
reverts it to its snapshot, and an ABANDON that matches none is counted (R52, R53, R55, R57, R63). -/
def Obligations.NoticesEndHolds : Prop :=
  ∀ (s : State) (t : Tag) (k : Key) (rest : List Intake), s.live → s.noneOverdue →
    let left := s.intakeLeft rest
    (∀ i h r, s.holdAt i = some h → h.tag = t → (∀ j g, s.holdAt j = some g → g.tag = t → j = i) →
      s.recordAt h.position = some r → r.key = k →
      let ended (u : UseFields) : State :=
        (left.writeRecord h.position { r with uses := u, hold := none }).setHold i none
      (∀ kind time, s.hdu.intake = .passed t k kind time :: rest →
        let committed := ended (useOutcome h.kind time h.snapshot)
        exec .passed s = .next
          (if h.kind = .entry ∧ h.snapshot.use = .inside then committed.report (.duplicate k .commit time (.tag t))
          else committed)) ∧
      (s.hdu.intake = .abandon t k :: rest → exec .abandon s = .next (ended h.snapshot))) ∧
    ((∀ i h, s.holdAt i = some h → h.tag = t → ∀ r, s.recordAt h.position = some r → r.key ≠ k) →
      s.hdu.intake = .abandon t k :: rest →
      exec .abandon s = .next
        { left with
          hdu :=
            { left.hdu with
              strayAbandons :=
                if s.hdu.strayAbandons < 65535 then s.hdu.strayAbandons + 1 else s.hdu.strayAbandons } })

/-- A PASSED that matches no live hold, and every LATE_USE, is applied as a use: to the record, to the snapshot of the
hold on it, or reported as UNKNOWN_USE (R20, R52, R58, R59, R60, R62, R63). -/
def Obligations.UsesApplied : Prop :=
  ∀ (s : State) (e : Intake) (rest : List Intake) (row : Instr) (k : Key) (kind : Kind) (time : Nat)
    (origin : UseOrigin),
    s.live → s.noneOverdue → s.hdu.intake = e :: rest →
    (∃ t, e = .passed t k kind time ∧ row = .passed ∧ origin = .tag t ∧
        ∀ i h, s.holdAt i = some h → h.tag = t → ∀ r, s.recordAt h.position = some r → r.key ≠ k) ∨
      (∃ part lane, e = .lateUse part lane k kind time ∧ row = .lateUse ∧ origin = .lane part lane) →
    let left := s.intakeLeft rest
    let told (u : UseFields) (x : State) : State :=
      if kind = .entry ∧ u.use = .inside then x.report (.duplicate k .appliedUse time origin) else x
    (s.adt.phase = .sweeping → exec row s = .next (left.report (.unknownUse k kind time origin))) ∧
    (s.adt.phase = .ready → s.notFiled k → exec row s = .next (left.report (.unknownUse k kind time origin))) ∧
    (∀ p r, s.adt.phase = .ready → s.filedAt k p r →
      (r.hold = none →
        exec row s = .next
          (told r.uses (left.writeRecord p { r with uses := useOutcome kind time r.uses }))) ∧
      ∀ i h, r.hold = some i → s.holdAt i = some h →
        exec row s = .next
          (told h.snapshot (left.setHold i (some { h with snapshot := useOutcome kind time h.snapshot }))))

/-- A hold whose deadline passes is lapsed: its record reverts to the snapshot and HOLD_LAPSED is sent (R56, R61); and
before an entry is taken every overdue hold is. Their ascending order, and that the row brings its own moment, are the
model's choices (log entries 4 and 5). -/
def Obligations.OverdueHoldsLapseFirst : Prop :=
  ∀ (s : State) (i : HoldNo), s.live →
    (s.holdAt i = none → exec (.holdDeadline i) s = .next s) ∧
    ∀ h r, s.holdAt i = some h → s.recordAt h.position = some r →
      let lapsed : State :=
        ((({ s with timebase := max s.timebase h.deadline } : State).writeRecord h.position
          { r with uses := h.snapshot, hold := none }).setHold i none).report
          (.holdLapsed h.tag r.key h.kind .deadline h.snapshot.use)
      exec (.holdDeadline i) s = .next lapsed ∧
      (h.deadline ≤ s.timebase → (∀ j g, j < i → s.holdAt j = some g → s.timebase < g.deadline) →
        ∀ e rest, s.hdu.intake = e :: rest →
          let row : Instr :=
            match e with
            | .claim .. => .claim
            | .passed .. => .passed
            | .abandon .. => .abandon
            | .lateUse .. => .lateUse
          exec row s = exec row lapsed)

/-! ### Remote claims -/

/-- A verdict taken: the answer of the claim it matches, or a late verdict, of which a grant under this part's tag is
abandoned where it came from; a code that names no verdict is late and no grant (R80, R127, R128, R177). -/
def Obligations.VerdictAnswersClaim : Prop :=
  ∀ (s : State) (v : HandedVerdict) (rest : List HandedVerdict), s.live → s.clt.inbox = v :: rest →
    let left : State := { s with clt := { s.clt with inbox := rest } }
    let late : State :=
      { left with
        clt :=
          { left.clt with
            lateVerdicts := if s.clt.lateVerdicts < 65535 then s.clt.lateVerdicts + 1 else s.clt.lateVerdicts } }
    let answers (l : LaneNo) (e : TrackerEntry) : Prop :=
      s.place l = some e ∧ v.tag = ⟨s.grp.position, l, e.seq⟩ ∧ v.key = e.key ∧
        (e.mode = .atHome ∧ v.source = none ∨ e.mode = .remote ∧ v.source = some e.home)
    (v.name = none → exec .verdict s = .next late) ∧
    (∀ n l e, v.name = some n → answers l e →
      exec .verdict s = .next ((left.setPlace l none).hand l (.result (.verdict n v.argument)))) ∧
    (∀ n, v.name = some n → (∀ l e, ¬answers l e) →
      let grant : Prop := (n = .admitFresh ∨ n = .admitReentry ∨ n = .exitOk) ∧ v.tag.part = s.grp.position
      (¬grant → exec .verdict s = .next late) ∧
      (grant → v.source = none → exec .verdict s = .next (late.offerIntake (.abandon v.tag v.key))) ∧
      (∀ a, grant → v.source = some a →
        exec .verdict s = .next (late.offer ⟨a, .intake (.abandon v.tag v.key)⟩)))

/-- A REMOTE claim whose deadline passes is unreachable: its entry is removed, and its lane's policy gives the result
and what the provisional log keeps (R126, R130, R133, R134, R135, R141). That the row brings its own moment, and that it
is the deadline's exact millisecond, are the model's choices (log entries 4 and 25). -/
def Obligations.UnreachableClaims : Prop :=
  ∀ (s : State) (l : LaneNo), s.live →
    (s.place l = none → exec (.claimTimeout l) s = .next s) ∧
    ∀ e, s.place l = some e →
      (e.deadline = none → exec (.claimTimeout l) s = .next s) ∧
      ∀ d, e.deadline = some d →
        let freed := ({ s with timebase := max s.timebase d } : State).setPlace l none
        let kept (kind : Kind) : LogRecord := ⟨e.key, kind, l, e.time, .pending⟩
        let noted (kind : Kind) : State := { freed with clt := { freed.clt with log := s.clt.log ++ [kept kind] } }
        let result (t : State) (r : Result) : Prop := exec (.claimTimeout l) s = .next (t.hand l (.result r))
        let known : Prop := ∃ x ∈ s.clt.log, x.kind = .entry ∧ x.key = e.key
        ((s.lane l).config.policy = .refuse → result freed (.unreachable none)) ∧
        ((s.lane l).config.policy = .provisional → e.kind = .entry →
          (known → result freed .provisionalLimit) ∧
          (¬known → 256 ≤ s.clt.log.length → result freed .logFull) ∧
          (¬known → s.clt.log.length < 256 → result (noted .entry) (.provisionalAdmit (kept .entry)))) ∧
        ((s.lane l).config.policy = .provisional → e.kind = .exit →
          (s.clt.log.length < 256 → result (noted .exit) (.unreachable (some (kept .exit)))) ∧
          (256 ≤ s.clt.log.length →
            result
              { freed with
                clt :=
                  { freed.clt with
                    unloggedExits :=
                      if s.clt.unloggedExits < 65535 then s.clt.unloggedExits + 1 else s.clt.unloggedExits } }
              (.unreachable none)))

/-- The record at the head of the log is offered to its home as a LATE_USE when it is DONE, the ring is UP and a general
cell finds room; and what becomes of a CLAIM or LATE_USE that comes back undelivered (R131, R138, R139, R141). -/
def Obligations.LogDrainsAndReturns : Prop :=
  (∀ s : State, s.live →
    (s.clt.log = [] → exec .drainLateUse s = .next s) ∧
    ∀ r rest, s.clt.log = r :: rest →
      let room : Prop :=
        s.grp.localQueue.length < 32 ∧ (s.grp.localQueue.filter fun x => x.body.general).length < 24
      let left : State := { s with clt := { s.clt with log := rest } }
      let late : Intake := .lateUse s.grp.position r.lane r.key r.kind r.time
      let home := r.key.value % s.grp.size
      (r.state = .pending ∨ s.grp.ringUp = false ∨ ¬room → exec .drainLateUse s = .next s) ∧
      (r.state = .done → s.grp.ringUp = true → room →
        (home = s.grp.position → exec .drainLateUse s = .next (left.offerIntake late)) ∧
        (home ≠ s.grp.position → exec .drainLateUse s = .next (left.offer ⟨home, .intake late⟩)))) ∧
  (∀ (s : State) (t : Tag) (k : Key),
    (∀ (l : LaneNo) e, t.lane = l.val → s.place l = some e → e.mode = .remote → e.seq = t.seq → e.key = k →
      s.claimReturned t k = s.unreachable l e) ∧
    ((∀ (l : LaneNo) e, t.lane = l.val → s.place l = some e → e.mode = .remote → e.seq = t.seq → e.key ≠ k) →
      s.claimReturned t k = s)) ∧
  ∀ (s : State) (lane : Nat) (k : Key) (kind : Kind) (time : Nat),
    let dropped : Prop :=
      256 ≤ s.clt.log.length ∨ kind = .entry ∧ ∃ x ∈ s.clt.log, x.kind = .entry ∧ x.key = k
    (dropped →
      s.lateUseReturned lane k kind time =
        { s with
          clt :=
            { s.clt with logDrops := if s.clt.logDrops < 65535 then s.clt.logDrops + 1 else s.clt.logDrops } }) ∧
    (¬dropped →
      s.lateUseReturned lane k kind time =
        { s with clt := { s.clt with log := ⟨k, kind, lane, time, .done⟩ :: s.clt.log } })

/-! ### The lane bus -/

/-- When the port begins a delivery, a fetch or a poll, for which lane, and what it changes at once (R112, R115, R116,
R117, R120, R121). A row whose transaction is not the one to come changes nothing, a polling round runs over the lanes
fitted as it began, of several due dispositions that of the lowest lane due as the delivery begins is next, and a fetch
stays open until the next poll begins: the model's choices (log entries 2, 16, 27 and 30). -/
def Obligations.BusTransactionsBegin : Prop :=
  ∀ s : State, s.live →
    let fitted (l : LaneNo) : Prop := (s.lane l).config.fitted = true
    let due (l : LaneNo) : Prop := fitted l ∧ (s.head l).waiting ≠ none ∧ 0 < (s.head l).room
    let candidate (pr : Priority) (l : LaneNo) : Prop :=
      fitted l ∧ 0 < (s.head l).offered ∧ (s.head l).inHand = false ∧
        ((s.lane l).state = .idle ∨ (s.lane l).state = .closed ∨ (s.lane l).state = .released) ∧
        (s.lane l).config.priority = pr
    let turns (pointer l : LaneNo) : Nat := (l.val + 15 - pointer.val) % 16
    let first (pr : Priority) (pointer l : LaneNo) : Prop :=
      candidate pr l ∧ ∀ m, candidate pr m → turns pointer l ≤ turns pointer m
    let polls (l : LaneNo) (rest : List LaneNo) : Prop :=
      exec (.poll .begun) s = .next
        { s with lbp := { s.lbp with round := rest, afterPoll := true, underWay := some (.poll l) } }
    let fetches (b : Lbp) (l : LaneNo) : Prop :=
      exec (.fetch .begun) s = .next
        (State.modHead { s with lbp := { b with afterPoll := false, underWay := some (.fetch l) } } l
          fun h => { h with offered := h.offered - 1 })
    let noPoll : Prop := exec (.poll .begun) s = .next s
    let noFetch : Prop := exec (.fetch .begun) s = .next s
    let noDelivery : Prop := exec (.delivery .begun) s = .next s
    (s.lbp.underWay ≠ none → noPoll ∧ noFetch ∧ noDelivery) ∧
    (∀ l d, s.lbp.underWay = none → due l → (∀ m, m < l → ¬due m) → (s.head l).waiting = some d →
      noPoll ∧ noFetch ∧
      exec (.delivery .begun) s = .next
        (State.modHead { s with lbp := { s.lbp with underWay := some (.delivery l d false) } } l
          fun h => { h with waiting := none, room := h.room - 1 })) ∧
    (s.lbp.underWay = none → (∀ l, ¬due l) →
      noDelivery ∧
      (s.lbp.afterPoll = false ∨ (∀ pr l, ¬candidate pr l) →
        noFetch ∧
        ((∀ l, ¬fitted l) → noPoll) ∧
        (∀ l rest, (∃ m, fitted m) → s.lbp.round = l :: rest → polls l rest) ∧
        (∀ l rest, s.lbp.round = [] →
          ((List.finRange 16).filter fun l => (s.lane l).config.fitted) = l :: rest → polls l rest)) ∧
      (∀ l, s.lbp.afterPoll = true → first .high s.lbp.highPointer l →
        noPoll ∧ fetches { s.lbp with highPointer := l } l) ∧
      (∀ l, s.lbp.afterPoll = true → (∀ m, ¬candidate .high m) → first .normal s.lbp.normalPointer l →
        noPoll ∧ fetches { s.lbp with normalPointer := l } l))

/-- What an answer, or none, does to the lane of the transaction under way (R113, R114, R117, R118, R119, R121). An answer
of no form of section 11.3 fails its check, a lane that lost its head meanwhile keeps its items, and one that got it back
meanwhile takes the answer like any other: the model's choices (log entries 15, 16 and 31). -/
def Obligations.BusAnswers : Prop :=
  ∀ (s : State) (l : LaneNo), s.live →
    let h := s.head l
    let idle : State := { s with lbp := { s.lbp with underWay := none } }
    let missed : State :=
      if (s.lane l).config.fitted = false then idle
      else if h.missed < 2 then idle.modHead l fun h => { h with offered := 0, room := 0, missed := h.missed + 1 }
      else (idle.modHead l fun h => { h with offered := 0, room := 0, missed := 0, linked := false }).hand l .linkLoss
    let sum (bytes : List Byte) : Byte := bytes.foldl (· + ·) 0
    let empty : List Byte := [0x00, 0x00]
    let acknowledged : List Byte := [0x06, 0xFA]
    (s.lbp.underWay = some (.poll l) →
      exec .miss s = .next missed ∧
      (∀ bytes, (∀ count room check, bytes = [count, room, check] → sum bytes ≠ 0) →
        exec (.poll (.answered bytes)) s = .next missed) ∧
      (∀ count room check, sum [count, room, check] = 0 → (s.lane l).config.fitted = true →
        let heard := idle.modHead l fun h =>
          { h with offered := min 2 count.toNat, room := min 2 room.toNat, missed := 0, linked := true }
        exec (.poll (.answered [count, room, check])) s = .next
          (if h.linked then heard else heard.hand l .linkRegained))) ∧
    (s.lbp.underWay = some (.fetch l) →
      exec .miss s = .next missed ∧
      ((s.lane l).config.fitted = true →
        (∀ medium length payload age check, payload.length = 10 →
          sum (0x01 :: medium :: length :: payload ++ [age, check]) = 0 →
          exec (.fetch (.answered (0x01 :: medium :: length :: payload ++ [age, check]))) s = .next
            ((idle.modHead l fun h => { h with missed := 0, linked := true, inHand := true }).hand l
              (.presentation ⟨medium, length.toNat, payload, age.toNat⟩))) ∧
        exec (.fetch (.answered empty)) s = .next (idle.modHead l fun h => { h with offered := 0, missed := 0 }) ∧
        (∀ bytes, sum bytes ≠ 0 ∨ bytes ≠ empty ∧ (bytes.length ≠ 15 ∨ bytes.getD 0 0 ≠ 0x01) →
          exec (.fetch (.answered bytes)) s = .next
            (idle.modHead l fun h => { h with missed := 0, waiting := some ⟨.rescan, 0, none⟩ })))) ∧
    (∀ d gone, s.lbp.underWay = some (.delivery l d gone) →
      let returned (x : State) : State :=
        if gone then x
        else x.modHead l fun h => { h with waiting := match h.waiting with | some w => some w | none => some d }
      exec .miss s = .next (returned missed) ∧
      (∀ bytes, bytes ≠ acknowledged → exec (.delivery (.answered bytes)) s = .next (returned missed)) ∧
      ((s.lane l).config.fitted = true →
        exec (.delivery (.answered acknowledged)) s = .next (idle.modHead l fun h => { h with missed := 0 }))) ∧
    (s.lbp.underWay = none → exec .miss s = .next s)

/-! ### What a lane takes -/

/-- A presentation taken in each state, and in IDLE the checks that end it before a claim: stale, misread, echo (R73,
R74, R75, R76, R77, R83, R104, R118, R120). -/
def Obligations.PresentationChecks : Prop :=
  ∀ (s : State) (l : LaneNo) (p : Presentation) (rest : List LaneEvent), s.live →
    (s.lane l).events = .presentation p :: rest →
    let ln := s.lane l
    let result (t : State) : Prop := exec (.presentation l) s = .next t
    let said (m : Message) (lane : Lane → Lane) (lines : Lines → Lines) : State :=
      s.atLane l (fun ln => lane { ln with events := rest, last := some ⟨⟨m, 0, none⟩, s.mgu.clock⟩ })
        (fun h => { h with inHand := false, waiting := some ⟨m, 0, none⟩ }) lines
    let refused (m : Message) : State :=
      said m
        (fun ln =>
          { ln with
            counters :=
              { ln.counters with
                refused := if ln.counters.refused < 65535 then ln.counters.refused + 1 else ln.counters.refused } })
        fun x => { x with indication := .retry, shownSince := s.timebase }
    let left : State := s.atLane l (fun ln => { ln with events := rest }) (fun h => { h with inHand := false }) id
    (ln.state = .closed → result (said .laneClosed id id)) ∧
    (ln.state = .released → result (said .emergency id id)) ∧
    (ln.state = .validating ∨ ln.state = .awaitPass ∨ ln.state = .fault → result left) ∧
    ∀ t, ln.state = .idle → s.mgu.clock = some t →
      (ln.config.staleLimit * 10 < p.age → result (refused .tryAgain)) ∧
      (p.age ≤ ln.config.staleLimit * 10 → formKey p.medium p.length p.payload = none → result (refused .rescan)) ∧
      ∀ k e, p.age ≤ ln.config.staleLimit * 10 → formKey p.medium p.length p.payload = some k →
        ln.echo = some e → ln.config.echoWindow ≠ 0 → e.key = k → e.time ≤ t → t ≤ e.time + ln.config.echoWindow →
        result left

/-- A presentation in IDLE that passes those checks: the echo record moves, an ENTRY lane reserves a place or answers
ZONE_FULL, and the claim is issued: the lane is VALIDATING, and the claim is at its home, on the ring, or unreachable at
once (R9, R77, R78, R79, R83, R124, R125, R126, R130, R157). The lane's own zone requests are served before its
reservation, the model's choice (log entry 17). -/
def Obligations.ClaimIssued : Prop :=
  ∀ (s : State) (l : LaneNo) (p : Presentation) (rest : List LaneEvent) (k : Key) (t : Nat), s.live →
    (s.lane l).events = .presentation p :: rest → (s.lane l).state = .idle → s.mgu.clock = some t →
    p.age ≤ (s.lane l).config.staleLimit * 10 → formKey p.medium p.length p.payload = some k →
    (∀ e, (s.lane l).echo = some e → (s.lane l).config.echoWindow ≠ 0 → e.key = k → e.time ≤ t →
      e.time + (s.lane l).config.echoWindow < t) →
    let ln := s.lane l
    let c := ln.config
    let home := k.value % s.grp.size
    let noted : State :=
      s.atLane l (fun ln => { ln with events := rest, echo := some ⟨k, t⟩ }) (fun h => { h with inHand := false }) id
    let claim : Intake := .claim ⟨s.grp.position, l, ln.seq⟩ k c.direction t c.zone c.classes
    let tracked (mode : Mode) (deadline : Option Nat) : TrackerEntry :=
      { seq := ln.seq, key := k, kind := c.direction, home := home, time := t, mode := mode, deadline := deadline }
    let room : Prop :=
      s.grp.localQueue.length < 32 ∧ (s.grp.localQueue.filter fun x => x.body.general).length < 24
    let result (t : State) : Prop := exec (.presentation l) s = .next t
    let issuedFrom (x : State) : Prop :=
      let y := x.modLane l fun ln =>
        { ln with state := .validating, current := some ⟨k, t⟩, seq := (ln.seq + 1) % 256 }
      (home = s.grp.position → result ((y.setPlace l (some (tracked .atHome none))).offerIntake claim)) ∧
      (home ≠ s.grp.position → s.grp.ringUp = true → room →
        result
          ((y.setPlace l (some (tracked .remote (some (s.timebase + s.mgu.settings.claimTimeout))))).offer
            ⟨home, .intake claim⟩)) ∧
      (home ≠ s.grp.position → s.grp.ringUp = false ∨ ¬room → result (y.unreachable l (tracked .remote none)))
    (c.direction = .exit → issuedFrom noted) ∧
    (c.direction = .entry →
      let served := noted.serveZoneAll l
      let z := served.zone c.zone
      (z.count + z.reserved < z.quota →
        issuedFrom (served.modZone c.zone fun r => { r with reserved := r.reserved + 1 })) ∧
      (z.quota ≤ z.count + z.reserved →
        result
          (served.atLane l
            (fun ln =>
              { ln with
                last := some ⟨⟨.zoneFull, 0, some k⟩, some t⟩
                counters :=
                  { ln.counters with
                    refused :=
                      if ln.counters.refused < 65535 then ln.counters.refused + 1 else ln.counters.refused } })
            (fun h => { h with waiting := some ⟨.zoneFull, 0, some k⟩ })
            fun x => { x with indication := .refuse, shownSince := s.timebase })))

/-- What an ENTRY lane and an EXIT lane do with each result of a claim, row by row, and that a result outside VALIDATING
is ignored (R72, R80, R81, R82, R83, R84). A result the tables do not list takes what the rules say of every result,
with a free indication or message: the model's choice (log entry 12). Which event is next, so that a result overtakes
the presentations that wait before it, is the model's choice too (log entry 3). -/
def Obligations.ResultsTaken : Prop :=
  ∀ (s : State) (l : LaneNo) (r : Result) (before after : List LaneEvent), s.live →
    s.nextIs l before (.result r) after →
    let left := s.eventGone l before after
    let ln := s.lane l
    let key := ln.current.map (·.key)
    let tag : Tag := ⟨s.grp.position, l, (ln.seq + 255) % 256⟩
    let result (t : State) : Prop := exec (.claimResult l) s = .next t
    let refused (m : Message) (a : Nat) (i : Indication) (x : State) : State :=
      (x.atLane l
        (fun ln =>
          { ln with
            last := some ⟨⟨m, a, key⟩, s.mgu.clock⟩, current := none, passage := none
            state := if ln.openIntent then .idle else .closed
            counters :=
              { ln.counters with
                refused := if ln.counters.refused < 65535 then ln.counters.refused + 1 else ln.counters.refused } })
        (fun h => { h with waiting := some ⟨m, a, key⟩ })
        fun y => { y with indication := i, shownSince := s.timebase, cancelSet := false }).withRequests
        [⟨l, ln.config.zone, .release⟩]
    let passes (m : Message) (a : Nat) (p : Passage) (i : Indication) (x : State) : State :=
      (x.atLane l (fun ln => { ln with last := some ⟨⟨m, a, key⟩, s.mgu.clock⟩ })
        (fun h => { h with waiting := some ⟨m, a, key⟩ }) id).beginPassage l p i
    let drawn (n : Nat) : State := { left with freeCount := s.freeCount + n }
    (ln.state ≠ .validating → result left) ∧
    (ln.state = .validating → ln.config.direction = .entry →
      (∀ v a, r = .verdict v a →
        (v = .admitFresh ∨ v = .admitReentry →
          result (passes (.ofVerdict v) a ⟨.granted, some tag, none⟩ .grant left)) ∧
        (v = .homeBusy → result (refused (.ofVerdict v) a .retry left)) ∧
        (v = .unknown ∨ v = .void ∨ v = .wrongLane ∨ v = .wrongZone ∨ v = .tooEarly ∨ v = .tooLate ∨
          v = .inProgress ∨ v = .alreadyIn ∨ v = .noReentry ∨ v = .cooldown →
          result (refused (.ofVerdict v) a .refuse left)) ∧
        (v = .exitOk ∨ v = .exitUnmatched →
          ∃ i ∈ [Indication.refuse, .retry, .dark], result (refused (.ofVerdict v) a i (drawn 1)))) ∧
      (∀ x, r = .provisionalAdmit x →
        result (passes .provisionalAdmit 0 ⟨.provisional, none, some x⟩ .provisional left)) ∧
      (∀ x, r = .unreachable x → result (refused .seeStaff 0 .refuse left)) ∧
      (r = .provisionalLimit → result (refused .provisionalLimit 0 .refuse left)) ∧
      (r = .logFull → result (refused .logFull 0 .refuse left))) ∧
    (ln.state = .validating → ln.config.direction = .exit →
      let unlisted (a : Nat) : Prop :=
        ∃ m ∈ [Message.ofVerdict .exitOk, .ofVerdict .exitUnmatched, .exitUnchecked],
          ∃ i ∈ [Indication.grant, .provisional], result (passes m a ⟨.unchecked, none, none⟩ i (drawn 2))
      (∀ v a, r = .verdict v a →
        (v = .exitOk → result (passes (.ofVerdict .exitOk) a ⟨.granted, some tag, none⟩ .grant left)) ∧
        (v = .exitUnmatched →
          result (passes (.ofVerdict .exitUnmatched) a ⟨.unchecked, none, none⟩ .grant left)) ∧
        (v = .inProgress ∨ v = .homeBusy → result (passes .exitUnchecked a ⟨.unchecked, none, none⟩ .grant left)) ∧
        (v ≠ .exitOk → v ≠ .exitUnmatched → v ≠ .inProgress → v ≠ .homeBusy → unlisted a)) ∧
      (r = .unreachable none → result (passes .exitUnchecked 0 ⟨.unchecked, none, none⟩ .grant left)) ∧
      (∀ x, r = .unreachable (some x) →
        result (passes .exitUnchecked 0 ⟨.provisional, none, some x⟩ .provisional left)) ∧
      (r = .provisionalLimit ∨ r = .logFull ∨ (∃ x, r = .provisionalAdmit x) → unlisted 0))

/-- A rotation taken: forced, free, or the passage's, whose six steps end it (R85, R88, R99, R137, R158, R160, R174).
`markDone` makes the lane's PENDING record DONE at the rotation's second. Which event is next is the model's choice (log
entry 3). -/
def Obligations.RotationsTaken : Prop :=
  (∀ (s : State) (l : LaneNo) (latched : Bool) (before after : List LaneEvent), s.live →
    s.nextIs l before (.rotation latched) after →
    let left := s.eventGone l before after
    let ln := s.lane l
    let dir := ln.config.direction
    let zone := ln.config.zone
    let up (n : Nat) : Nat := if n < 65535 then n + 1 else n
    let result (t : State) : Prop := exec (.rotation l) s = .next t
    let counted (f : LaneCounters → LaneCounters) : State := left.modLane l fun ln => { ln with counters := f ln.counters }
    (ln.state = .released → result (counted fun c => { c with free := up c.free })) ∧
    (ln.state ≠ .released → ln.state ≠ .awaitPass ∨ latched = false →
      result ((counted fun c => { c with forced := up c.forced }).report (.forced l ln.state s.mgu.clock))) ∧
    ∀ p t, ln.state = .awaitPass → latched = true → ln.passage = some p → s.mgu.clock = some t →
      let requested (x : State) : State := x.withRequests [⟨l, zone, if dir = .entry then .convert else .exit⟩]
      let ended (f : LaneCounters → LaneCounters) (x : State) : State :=
        x.atLane l
          (fun ln =>
            { ln with
              counters := f ln.counters, current := none, passage := none
              state := if ln.openIntent then .idle else .closed })
          id
          fun y =>
            { y with
              arm := .locked, latch := .disarmed, passTimer := none, cancelSet := false, indication := .dark
              shownSince := s.timebase }
      (∀ tag k time, p.origin = .granted → p.tag = some tag → ln.current = some ⟨k, time⟩ →
        result
          (ended (fun c => { c with admitted := up c.admitted })
            ((requested (left.sendNotice (.passed tag k dir t) k)).report
              (.passage l dir zone .granted (some k) (some tag) t)))) ∧
      (∀ k time, p.origin = .provisional → ln.current = some ⟨k, time⟩ →
        result
          (ended (fun c => { c with provisional := up c.provisional })
            ((requested { left with clt := { s.clt with log := markDone l t s.clt.log } }).report
              (.provisional l dir zone k t)))) ∧
      (p.origin = .unchecked →
        result
          (ended (fun c => { c with admitted := up c.admitted })
            ((requested left).report (.passage l dir zone .unchecked (ln.current.map (·.key)) p.tag t)))) ∧
      (p.origin = .manual →
        result
          (ended (fun c => { c with manual := up c.manual })
            ((requested left).report (.passage l dir zone .manual (ln.current.map (·.key)) p.tag t))))) ∧
  ∀ (l time : Nat) (before after : List LogRecord) (r : LogRecord),
    (∀ x ∈ before, x.lane ≠ l ∨ x.state ≠ .pending) → r.lane = l → r.state = .pending →
    markDone l time (before ++ r :: after) = before ++ { r with state := .done, time := time } :: after

/-- The expiry, the cancel, the loss and the return of the link, the emergency and its clearing, in each state of the
lane (R70, R71, R72, R83, R86, R87, R92, R94, R95, R102, R106, R109). Which event is next is the model's choice (log
entry 3). -/
def Obligations.EventsThatEndWork : Prop :=
  ∀ (s : State) (l : LaneNo) (before after : List LaneEvent) (e : LaneEvent), s.live → s.nextIs l before e after →
    let left := s.eventGone l before after
    let ended := left.endWork l
    let ln := s.lane l
    let settled : LaneState := if ln.openIntent then .idle else .closed
    let dark (y : Lines) : Lines := { y with cancelSet := false, indication := .dark, shownSince := s.timebase }
    let locked (y : Lines) : Lines := { y with arm := .locked, latch := .disarmed, passTimer := none }
    let into (st : LaneState) (lines : Lines → Lines) (x : State) : State :=
      x.atLane l (fun ln => { ln with state := st }) id lines
    let unset := left.modLine l fun y => { y with cancelSet := false }
    let told : Disposition := ⟨.cancelled, 0, ln.current.map (·.key)⟩
    let cancelled (lines : Lines → Lines) : State :=
      ended.atLane l (fun ln => { ln with state := settled, last := some ⟨told, s.mgu.clock⟩ })
        (fun h => { h with waiting := some told }) lines
    (e = .passExpiry →
      exec (.passExpiry l) s = .next
        (if ln.state = .awaitPass then into settled (fun y => dark (locked y)) ended else left)) ∧
    (e = .cancel →
      (ln.state = .validating → exec (.cancel l) s = .next (cancelled dark)) ∧
      (ln.state = .awaitPass → exec (.cancel l) s = .next (cancelled fun y => dark (locked y))) ∧
      (ln.state ≠ .validating → ln.state ≠ .awaitPass → exec (.cancel l) s = .next unset)) ∧
    (e = .linkLoss →
      exec (.linkLoss l) s = .next
        (if ln.state = .fault ∨ ln.state = .released then left
        else (into .fault (fun y => dark (locked y)) ended).report (.fault l ln.state))) ∧
    (e = .linkRegained →
      exec (.linkRegained l) s = .next
        (if ln.state = .fault then (into settled dark left).report (.recovered l settled) else left)) ∧
    (e = .emergency →
      exec (.emergencyEvent l) s = .next
        (into .released
          (fun y =>
            { y with
              arm := .free, latch := .disarmed, passTimer := none, cancelSet := false, indication := .released
              shownSince := s.timebase })
          ended)) ∧
    (e = .latchClearing →
      exec (.latchClearing l) s = .next
        (if ln.state = .released then into settled (fun y => dark (locked y)) left else left))

/-! ### The turnstile lines -/

/-- What the edges of the rotation sensor and the cancel button, the end of the pass timer, the emergency input and the
end of an indication change, and which event each hands to a lane (R98, R99, R101, R102, R103, R105, R106); and what the
ARM, GRN, RED and TON lines show of it, in every state (R97, R103). A timed row brings its own exact moment, the
model's choice (log entries 4 and 25); which half of a tone's period is high is open (log entry 33). -/
def Obligations.LineEvents : Prop :=
  (∀ (s : State) (l : LaneNo),
    let x := s.line l
    let ms := s.timebase - x.shownSince
    let lit (green red : Bool) : Prop := s.greenLit l = green ∧ s.redLit l = red
    let blinking : Bool := ms % 500 < 250
    let silent : Prop := s.toneHz l = none ∧ ∀ us, us < 1000 → s.tonHigh l us = false
    let sounds (hertz : Nat) : Prop :=
      s.toneHz l = some hertz ∧
        ∀ us, us < 1000 → s.tonHigh l us =
          if (ms * 1000 + us) * 2 * hertz / 1000000 % 2 = 0 then Config.toneStartsHigh else !Config.toneStartsHigh
    let accepts : Prop := (ms < 500 → sounds 2000) ∧ (500 ≤ ms → silent)
    (s.armHigh l = true ↔ x.arm = .locked) ∧
    (x.indication = .grant → lit true false ∧ accepts) ∧
    (x.indication = .provisional → lit blinking false ∧ accepts) ∧
    (x.indication = .refuse → lit false true ∧
      (ms < 120 ∨ 240 ≤ ms ∧ ms < 360 ∨ 480 ≤ ms ∧ ms < 600 → sounds 600) ∧
      (120 ≤ ms ∧ ms < 240 ∨ 360 ≤ ms ∧ ms < 480 ∨ 600 ≤ ms → silent)) ∧
    (x.indication = .retry → lit false blinking ∧ silent) ∧
    (x.indication = .released → lit blinking false ∧ silent) ∧
    (x.indication = .dark → lit false false ∧ silent)) ∧
  ∀ (s : State) (l : LaneNo), s.live →
    let x := s.line l
    let handed (t : State) (e : LaneEvent) (lines : Lines → Lines) : State :=
      t.atLane l (fun ln => { ln with events := ln.events ++ [e] }) id lines
    let at_ (moment : Nat) : State := { s with timebase := max s.timebase moment }
    (x.sensorActive = true → exec (.rotationEdge l) s = .next s) ∧
    (x.sensorActive = false → x.latch = .armed →
      exec (.rotationEdge l) s = .next
        (handed s (.rotation true) fun y => { y with sensorActive := true, latch := .captured })) ∧
    (x.sensorActive = false → x.latch ≠ .armed →
      exec (.rotationEdge l) s = .next (handed s (.rotation false) fun y => { y with sensorActive := true })) ∧
    exec (.sensorLevelInactive l) s = .next (s.modLine l fun y => { y with sensorActive := false }) ∧
    (x.passTimer = none → exec (.passTimerExpired l) s = .next s) ∧
    (∀ d, x.passTimer = some d →
      exec (.passTimerExpired l) s = .next (handed (at_ d) .passExpiry fun y => { y with passTimer := none })) ∧
    (x.buttonPressed = true → exec (.cancelPress l) s = .next s) ∧
    (x.buttonPressed = false → x.cancelSet = false →
      (s.lane l).state = .validating ∨ (s.lane l).state = .awaitPass →
      exec (.cancelPress l) s = .next
        (handed s .cancel fun y => { y with buttonPressed := true, cancelSet := true })) ∧
    (x.buttonPressed = false →
      x.cancelSet = true ∨ (s.lane l).state ≠ .validating ∧ (s.lane l).state ≠ .awaitPass →
      exec (.cancelPress l) s = .next (s.modLine l fun y => { y with buttonPressed := true })) ∧
    exec (.buttonReleased l) s = .next (s.modLine l fun y => { y with buttonPressed := false }) ∧
    (s.tlu.inputActive = true → exec .emergencyEdge s = .next s) ∧
    (s.tlu.inputActive = false → s.tlu.latched = true →
      exec .emergencyEdge s = .next { s with tlu := { s.tlu with inputActive := true } }) ∧
    (s.tlu.inputActive = false → s.tlu.latched = false →
      ∃ u : State, (∀ m, u.lane m = { s.lane m with events := (s.lane m).events ++ [.emergency] }) ∧
        u =
          { s with
            lanes := u.lanes, tlu := { s.tlu with inputActive := true, latched := true, setAt := s.timebase } } ∧
        exec .emergencyEdge s = .next (u.report (.emergency .edge))) ∧
    exec .emergencyInputInactive s = .next { s with tlu := { s.tlu with inputActive := false } } ∧
    (x.indication = .refuse ∨ x.indication = .retry →
      exec (.indicationTimeout l) s = .next
        ((at_ (x.shownSince + 2000)).modLine l fun y =>
          { y with indication := .dark, shownSince := max s.timebase (x.shownSince + 2000) })) ∧
    (x.indication ≠ .refuse → x.indication ≠ .retry → exec (.indicationTimeout l) s = .next s)

/-- A row that acts on one lane leaves what every other lane holds as it is: in the Lane Controllers, the Lane Bus
Port, the Turnstile Line Unit, the tracker, the provisional log and the verdicts and zone requests that wait (R68, R97,
R111, R124, R136, R156). -/
def Obligations.LanesIndependent : Prop :=
  ∀ (i : Instr) (l : LaneNo) (s t : State), rowLane i = some l → exec i s = .next t → State.othersKept l s t

/-! ### The key former -/

/-- When a presentation forms a key, and which: a barcode by its digits, its pad nibble and its check digit, a card by
its length (R1, R2, R3, R4, R5). -/
def Obligations.KeyFormer : Prop :=
  (∀ (length : Nat) (payload : List Byte) (k : Key), payload.length = 10 →
    let digit (i : Nat) : Nat :=
      let b := (payload.getD (i / 2) 0).toNat
      if i % 2 = 0 then b / 16 else b % 16
    let weight (i : Nat) : Nat := [7, 3, 1].getD (i % 3) 0
    let formed : Prop :=
      6 ≤ length ∧ length ≤ 19 ∧ (∀ i, i < length → digit i < 10) ∧
        (length % 2 = 1 → digit length < 10 ∨ digit length = 15)
    let checked : Prop :=
      ((∑ i ∈ Finset.range (length - 1), weight i * digit i) + digit (length - 1)) % 10 = 0
    (formKey 0x01 length payload = some k ↔
      formed ∧ checked ∧
        k = ⟨0x01, length, ∑ i ∈ Finset.range length, digit i * 10 ^ (length - 1 - i)⟩) ∧
    (formKey 0x02 length payload = some k ↔
      (length = 4 ∨ length = 7) ∧
        k = ⟨0x02, length, ∑ i ∈ Finset.range length, (payload.getD i 0).toNat * 256 ^ (length - 1 - i)⟩)) ∧
  ∀ (medium : Byte) (length : Nat) (payload : List Byte), medium ≠ 0x01 → medium ≠ 0x02 →
    formKey medium length payload = none

/-! ### The cells of the station -/

/-- A MGMT payload is read as the command the station wrote, whatever stands in the spare bytes behind its arguments and
whatever byte but 00H sets a flag (R165, R176, sections 10.1 and 11.2); and the fields of every reply and every report
stand in the cell this part sends, at the offsets and in the codes of chapter 11, with zeros behind them and nothing cut
off (R96, R166, R170, R173 to R176, section 11.4). Two bytes for a zone's reserved, for a duration and for the ring-down
counter are inferred (log entry 19). -/
def Obligations.ManagementCellsReadBack : Prop :=
  (∀ (source : Nat) (request set : Byte) (c : Command) (spare : List Byte), c.fits → set ≠ 0 →
    mgmtOf source (c.code :: request :: (c.arguments set ++ spare)) = ⟨source, request, c⟩) ∧
  (∀ (position destination : Nat) (code request : Byte) (status : Status) (data : ReplyData),
    let body : CellBody := .reply code request status data
    let p := cellPayload (LocalCell.wire position ⟨destination, body⟩)
    byteAt p 0 = code ∧ byteAt p 1 = request ∧ byteAt p 2 = status.code ∧ data.standsIn p ∧
      body.bytes.length ≤ 56 ∧ ∀ i, body.bytes.length ≤ i → byteAt p i = 0) ∧
  (∀ (position destination : Nat) (report : Report) (second : Option Nat),
    let body : CellBody := .timed report second
    let p := cellPayload (LocalCell.wire position ⟨destination, body⟩)
    let kind : Byte :=
      match report with
      | .passage .. => 0x01
      | .forced .. => 0x02
      | .provisional .. => 0x03
      | .loadDone .. => 0x04
      | .holdLapsed .. => 0x05
      | .duplicate .. => 0x06
      | .unknownUse .. => 0x07
      | .fault .. => 0x08
      | .recovered .. => 0x09
      | .emergency .. => 0x0A
      | .emergencyCleared .. => 0x0B
      | .ringUp .. => 0x0C
      | .ringDown .. => 0x0D
    byteAt p 0 = kind ∧ timeStands p 1 second ∧ report.standsIn p ∧
      body.bytes.length ≤ 56 ∧ ∀ i, body.bytes.length ≤ i → byteAt p i = 0) ∧
  ([Status.ok, .okClamped, .badArg, .busy, .wrongHome, .bucketFull, .notFound, .inProgress, .noStream, .streamOpen,
      .noClock, .laneState, .zoneFull, .active, .badStrap].map (·.code) = (List.range 15).map (BitVec.ofNat 8) ∧
    [Message.ofVerdict .unknown, .ofVerdict .void, .ofVerdict .wrongLane, .ofVerdict .wrongZone,
      .ofVerdict .tooEarly, .ofVerdict .tooLate, .ofVerdict .inProgress, .ofVerdict .alreadyIn,
      .ofVerdict .noReentry, .ofVerdict .cooldown, .ofVerdict .homeBusy, .ofVerdict .admitFresh,
      .ofVerdict .admitReentry, .ofVerdict .exitUnmatched, .ofVerdict .exitOk, .seeStaff, .provisionalAdmit,
      .provisionalLimit, .logFull, .exitUnchecked, .laneClosed, .emergency, .tryAgain, .rescan, .zoneFull,
      .cancelled].map (·.code) = (List.range 26).map fun i => BitVec.ofNat 8 (i + 1)) ∧
  ([Kind.entry, .exit].map (·.code) = [0, 1] ∧ [UseState.fresh, .inside, .outside].map (·.code) = [0, 1, 2] ∧
    [LaneState.closed, .idle, .validating, .awaitPass, .fault, .released].map (·.code) = [0, 1, 2, 3, 4, 5] ∧
    [Origin.granted, .unchecked, .provisional, .manual].map (·.code) = [0, 1, 2, 3] ∧
    [LapseCause.deadline, .tagReuse].map (·.code) = [0, 1] ∧ [Occasion.commit, .appliedUse].map (·.code) = [0, 1] ∧
    [EmergencyCause.edge, .reset].map (·.code) = [0, 1] ∧ [Priority.normal, .high].map (·.code) = [0, 1] ∧
    [Policy.refuse, .provisional].map (·.code) = [0, 1] ∧
    [TableStatus.sweeping, .ready, .loading].map (·.code) = [0, 1, 2] ∧
    [PutOutcome.refused, .new, .replaced].map (·.code) = [0, 1, 2])
end

