-- ==== Sys2Proof/Laws/State.lean ====
section
/-! SUPPORT. Reading after writing: each named update of State, the part of State it changes, and the blocks it leaves
as they were. All of them hold by unfolding the update once. -/

namespace Sys2Proof.Machine

/-! ### One numbered item changed -/

theorem modAt_same {α : Type} {n : Nat} (v : Vector α n) (i : Fin n) (f : α → α) : (modAt v i f)[i] = f v[i] := by
  simp [modAt]

theorem modAt_other {α : Type} {n : Nat} (v : Vector α n) (i j : Fin n) (f : α → α) (h : j ≠ i) :
    (modAt v i f)[j] = v[j] := by
  have hne : i.val ≠ j.val := fun e => h (Fin.ext e.symm)
  simp [modAt, hne]

theorem modAt_get {α : Type} {n : Nat} (v : Vector α n) (i j : Fin n) (f : α → α) :
    (modAt v i f)[j] = if j = i then f v[i] else v[j] := by
  by_cases h : j = i
  · subst h; simp [modAt]
  · simp [h, modAt_other v i j f h]

/-! ### The blocks an update leaves as they were -/

@[simp] theorem State.modLane_frame (s : State) (l : LaneNo) (f : Lane → Lane) :
    (s.modLane l f).pending = s.pending ∧ (s.modLane l f).inReset = s.inReset ∧
      (s.modLane l f).timebase = s.timebase ∧ (s.modLane l f).freeCount = s.freeCount ∧
      (s.modLane l f).adt = s.adt ∧ (s.modLane l f).hdu = s.hdu ∧ (s.modLane l f).clt = s.clt ∧
      (s.modLane l f).lbp = s.lbp ∧ (s.modLane l f).zcu = s.zcu ∧ (s.modLane l f).tlu = s.tlu ∧
      (s.modLane l f).grp = s.grp ∧ (s.modLane l f).mgu = s.mgu :=
  ⟨rfl, rfl, rfl, rfl, rfl, rfl, rfl, rfl, rfl, rfl, rfl, rfl⟩

@[simp] theorem State.modHead_frame (s : State) (l : LaneNo) (f : Head → Head) :
    (s.modHead l f).pending = s.pending ∧ (s.modHead l f).inReset = s.inReset ∧
      (s.modHead l f).timebase = s.timebase ∧ (s.modHead l f).freeCount = s.freeCount ∧
      (s.modHead l f).adt = s.adt ∧ (s.modHead l f).hdu = s.hdu ∧ (s.modHead l f).clt = s.clt ∧
      (s.modHead l f).lanes = s.lanes ∧ (s.modHead l f).zcu = s.zcu ∧ (s.modHead l f).tlu = s.tlu ∧
      (s.modHead l f).grp = s.grp ∧ (s.modHead l f).mgu = s.mgu :=
  ⟨rfl, rfl, rfl, rfl, rfl, rfl, rfl, rfl, rfl, rfl, rfl, rfl⟩

@[simp] theorem State.modLine_frame (s : State) (l : LaneNo) (f : Lines → Lines) :
    (s.modLine l f).pending = s.pending ∧ (s.modLine l f).inReset = s.inReset ∧
      (s.modLine l f).timebase = s.timebase ∧ (s.modLine l f).freeCount = s.freeCount ∧
      (s.modLine l f).adt = s.adt ∧ (s.modLine l f).hdu = s.hdu ∧ (s.modLine l f).clt = s.clt ∧
      (s.modLine l f).lanes = s.lanes ∧ (s.modLine l f).lbp = s.lbp ∧ (s.modLine l f).zcu = s.zcu ∧
      (s.modLine l f).grp = s.grp ∧ (s.modLine l f).mgu = s.mgu :=
  ⟨rfl, rfl, rfl, rfl, rfl, rfl, rfl, rfl, rfl, rfl, rfl, rfl⟩

@[simp] theorem State.modZone_frame (s : State) (z : ZoneNo) (f : Zone → Zone) :
    (s.modZone z f).pending = s.pending ∧ (s.modZone z f).inReset = s.inReset ∧
      (s.modZone z f).timebase = s.timebase ∧ (s.modZone z f).freeCount = s.freeCount ∧
      (s.modZone z f).adt = s.adt ∧ (s.modZone z f).hdu = s.hdu ∧ (s.modZone z f).clt = s.clt ∧
      (s.modZone z f).lanes = s.lanes ∧ (s.modZone z f).lbp = s.lbp ∧ (s.modZone z f).tlu = s.tlu ∧
      (s.modZone z f).grp = s.grp ∧ (s.modZone z f).mgu = s.mgu :=
  ⟨rfl, rfl, rfl, rfl, rfl, rfl, rfl, rfl, rfl, rfl, rfl, rfl⟩

@[simp] theorem State.setPlace_frame (s : State) (l : LaneNo) (e : Option TrackerEntry) :
    (s.setPlace l e).pending = s.pending ∧ (s.setPlace l e).inReset = s.inReset ∧
      (s.setPlace l e).timebase = s.timebase ∧ (s.setPlace l e).freeCount = s.freeCount ∧
      (s.setPlace l e).adt = s.adt ∧ (s.setPlace l e).hdu = s.hdu ∧ (s.setPlace l e).lanes = s.lanes ∧
      (s.setPlace l e).lbp = s.lbp ∧ (s.setPlace l e).zcu = s.zcu ∧ (s.setPlace l e).tlu = s.tlu ∧
      (s.setPlace l e).grp = s.grp ∧ (s.setPlace l e).mgu = s.mgu :=
  ⟨rfl, rfl, rfl, rfl, rfl, rfl, rfl, rfl, rfl, rfl, rfl, rfl⟩

@[simp] theorem State.setHold_frame (s : State) (i : HoldNo) (h : Option Hold) :
    (s.setHold i h).pending = s.pending ∧ (s.setHold i h).inReset = s.inReset ∧
      (s.setHold i h).timebase = s.timebase ∧ (s.setHold i h).freeCount = s.freeCount ∧
      (s.setHold i h).adt = s.adt ∧ (s.setHold i h).clt = s.clt ∧ (s.setHold i h).lanes = s.lanes ∧
      (s.setHold i h).lbp = s.lbp ∧ (s.setHold i h).zcu = s.zcu ∧ (s.setHold i h).tlu = s.tlu ∧
      (s.setHold i h).grp = s.grp ∧ (s.setHold i h).mgu = s.mgu :=
  ⟨rfl, rfl, rfl, rfl, rfl, rfl, rfl, rfl, rfl, rfl, rfl, rfl⟩

@[simp] theorem State.setLog_frame (s : State) (log : List LogRecord) :
    (s.setLog log).pending = s.pending ∧ (s.setLog log).inReset = s.inReset ∧
      (s.setLog log).timebase = s.timebase ∧ (s.setLog log).freeCount = s.freeCount ∧
      (s.setLog log).adt = s.adt ∧ (s.setLog log).hdu = s.hdu ∧ (s.setLog log).lanes = s.lanes ∧
      (s.setLog log).lbp = s.lbp ∧ (s.setLog log).zcu = s.zcu ∧ (s.setLog log).tlu = s.tlu ∧
      (s.setLog log).grp = s.grp ∧ (s.setLog log).mgu = s.mgu :=
  ⟨rfl, rfl, rfl, rfl, rfl, rfl, rfl, rfl, rfl, rfl, rfl, rfl⟩

@[simp] theorem State.reach_frame (s : State) (m : Nat) :
    (s.reach m).pending = s.pending ∧ (s.reach m).inReset = s.inReset ∧ (s.reach m).freeCount = s.freeCount ∧
      (s.reach m).adt = s.adt ∧ (s.reach m).hdu = s.hdu ∧ (s.reach m).clt = s.clt ∧
      (s.reach m).lanes = s.lanes ∧ (s.reach m).lbp = s.lbp ∧ (s.reach m).zcu = s.zcu ∧
      (s.reach m).tlu = s.tlu ∧ (s.reach m).grp = s.grp ∧ (s.reach m).mgu = s.mgu :=
  ⟨rfl, rfl, rfl, rfl, rfl, rfl, rfl, rfl, rfl, rfl, rfl, rfl⟩

@[simp] theorem State.freeUsed_frame (s : State) :
    (s.freeUsed).pending = s.pending ∧ (s.freeUsed).inReset = s.inReset ∧ (s.freeUsed).timebase = s.timebase ∧
      (s.freeUsed).adt = s.adt ∧ (s.freeUsed).hdu = s.hdu ∧ (s.freeUsed).clt = s.clt ∧
      (s.freeUsed).lanes = s.lanes ∧ (s.freeUsed).lbp = s.lbp ∧ (s.freeUsed).zcu = s.zcu ∧
      (s.freeUsed).tlu = s.tlu ∧ (s.freeUsed).grp = s.grp ∧ (s.freeUsed).mgu = s.mgu :=
  ⟨rfl, rfl, rfl, rfl, rfl, rfl, rfl, rfl, rfl, rfl, rfl, rfl⟩

@[simp] theorem State.writeRecord_frame (s : State) (p : Nat) (r : Record) :
    (s.writeRecord p r).pending = s.pending ∧ (s.writeRecord p r).inReset = s.inReset ∧
      (s.writeRecord p r).timebase = s.timebase ∧ (s.writeRecord p r).freeCount = s.freeCount ∧
      (s.writeRecord p r).hdu = s.hdu ∧ (s.writeRecord p r).clt = s.clt ∧ (s.writeRecord p r).lanes = s.lanes ∧
      (s.writeRecord p r).lbp = s.lbp ∧ (s.writeRecord p r).zcu = s.zcu ∧ (s.writeRecord p r).tlu = s.tlu ∧
      (s.writeRecord p r).grp = s.grp ∧ (s.writeRecord p r).mgu = s.mgu :=
  ⟨rfl, rfl, rfl, rfl, rfl, rfl, rfl, rfl, rfl, rfl, rfl, rfl⟩

@[simp] theorem State.offer_frame (s : State) (c : LocalCell) :
    (s.offer c).pending = s.pending ∧ (s.offer c).inReset = s.inReset ∧ (s.offer c).timebase = s.timebase ∧
      (s.offer c).freeCount = s.freeCount ∧ (s.offer c).adt = s.adt ∧ (s.offer c).hdu = s.hdu ∧
      (s.offer c).clt = s.clt ∧ (s.offer c).lanes = s.lanes ∧ (s.offer c).lbp = s.lbp ∧
      (s.offer c).zcu = s.zcu ∧ (s.offer c).tlu = s.tlu ∧ (s.offer c).mgu = s.mgu :=
  ⟨rfl, rfl, rfl, rfl, rfl, rfl, rfl, rfl, rfl, rfl, rfl, rfl⟩

@[simp] theorem State.report_frame (s : State) (r : Report) :
    (s.report r).pending = s.pending ∧ (s.report r).inReset = s.inReset ∧ (s.report r).timebase = s.timebase ∧
      (s.report r).freeCount = s.freeCount ∧ (s.report r).adt = s.adt ∧ (s.report r).hdu = s.hdu ∧
      (s.report r).clt = s.clt ∧ (s.report r).lanes = s.lanes ∧ (s.report r).lbp = s.lbp ∧
      (s.report r).zcu = s.zcu ∧ (s.report r).tlu = s.tlu ∧ (s.report r).mgu = s.mgu :=
  ⟨rfl, rfl, rfl, rfl, rfl, rfl, rfl, rfl, rfl, rfl, rfl, rfl⟩

@[simp] theorem State.reply_frame (s : State) (c : MgmtCell) (st : Status) (d : ReplyData) :
    (s.reply c st d).pending = s.pending ∧ (s.reply c st d).inReset = s.inReset ∧
      (s.reply c st d).timebase = s.timebase ∧ (s.reply c st d).freeCount = s.freeCount ∧
      (s.reply c st d).adt = s.adt ∧ (s.reply c st d).hdu = s.hdu ∧ (s.reply c st d).clt = s.clt ∧
      (s.reply c st d).lanes = s.lanes ∧ (s.reply c st d).lbp = s.lbp ∧ (s.reply c st d).zcu = s.zcu ∧
      (s.reply c st d).tlu = s.tlu ∧ (s.reply c st d).mgu = s.mgu :=
  ⟨rfl, rfl, rfl, rfl, rfl, rfl, rfl, rfl, rfl, rfl, rfl, rfl⟩

@[simp] theorem State.handVerdict_frame (s : State) (v : HandedVerdict) :
    (s.handVerdict v).pending = s.pending ∧ (s.handVerdict v).inReset = s.inReset ∧
      (s.handVerdict v).timebase = s.timebase ∧ (s.handVerdict v).freeCount = s.freeCount ∧
      (s.handVerdict v).adt = s.adt ∧ (s.handVerdict v).hdu = s.hdu ∧ (s.handVerdict v).lanes = s.lanes ∧
      (s.handVerdict v).lbp = s.lbp ∧ (s.handVerdict v).zcu = s.zcu ∧ (s.handVerdict v).tlu = s.tlu ∧
      (s.handVerdict v).grp = s.grp ∧ (s.handVerdict v).mgu = s.mgu :=
  ⟨rfl, rfl, rfl, rfl, rfl, rfl, rfl, rfl, rfl, rfl, rfl, rfl⟩

@[simp] theorem State.hand_frame (s : State) (l : LaneNo) (e : LaneEvent) :
    (s.hand l e).pending = s.pending ∧ (s.hand l e).inReset = s.inReset ∧ (s.hand l e).timebase = s.timebase ∧
      (s.hand l e).freeCount = s.freeCount ∧ (s.hand l e).adt = s.adt ∧ (s.hand l e).hdu = s.hdu ∧
      (s.hand l e).clt = s.clt ∧ (s.hand l e).lbp = s.lbp ∧ (s.hand l e).zcu = s.zcu ∧
      (s.hand l e).tlu = s.tlu ∧ (s.hand l e).grp = s.grp ∧ (s.hand l e).mgu = s.mgu :=
  ⟨rfl, rfl, rfl, rfl, rfl, rfl, rfl, rfl, rfl, rfl, rfl, rfl⟩

@[simp] theorem State.handAll_frame (s : State) (e : LaneEvent) :
    (s.handAll e).pending = s.pending ∧ (s.handAll e).inReset = s.inReset ∧
      (s.handAll e).timebase = s.timebase ∧ (s.handAll e).freeCount = s.freeCount ∧ (s.handAll e).adt = s.adt ∧
      (s.handAll e).hdu = s.hdu ∧ (s.handAll e).clt = s.clt ∧ (s.handAll e).lbp = s.lbp ∧
      (s.handAll e).zcu = s.zcu ∧ (s.handAll e).tlu = s.tlu ∧ (s.handAll e).grp = s.grp ∧
      (s.handAll e).mgu = s.mgu :=
  ⟨rfl, rfl, rfl, rfl, rfl, rfl, rfl, rfl, rfl, rfl, rfl, rfl⟩

@[simp] theorem State.handResult_frame (s : State) (l : LaneNo) (r : Result) :
    (s.handResult l r).pending = s.pending ∧ (s.handResult l r).inReset = s.inReset ∧
      (s.handResult l r).timebase = s.timebase ∧ (s.handResult l r).freeCount = s.freeCount ∧
      (s.handResult l r).adt = s.adt ∧ (s.handResult l r).hdu = s.hdu ∧ (s.handResult l r).clt = s.clt ∧
      (s.handResult l r).lbp = s.lbp ∧ (s.handResult l r).zcu = s.zcu ∧ (s.handResult l r).tlu = s.tlu ∧
      (s.handResult l r).grp = s.grp ∧ (s.handResult l r).mgu = s.mgu :=
  ⟨rfl, rfl, rfl, rfl, rfl, rfl, rfl, rfl, rfl, rfl, rfl, rfl⟩

@[simp] theorem State.eventTaken_frame (s : State) (l : LaneNo) :
    (s.eventTaken l).pending = s.pending ∧ (s.eventTaken l).inReset = s.inReset ∧
      (s.eventTaken l).timebase = s.timebase ∧ (s.eventTaken l).freeCount = s.freeCount ∧
      (s.eventTaken l).adt = s.adt ∧ (s.eventTaken l).hdu = s.hdu ∧ (s.eventTaken l).clt = s.clt ∧
      (s.eventTaken l).lbp = s.lbp ∧ (s.eventTaken l).zcu = s.zcu ∧ (s.eventTaken l).tlu = s.tlu ∧
      (s.eventTaken l).grp = s.grp ∧ (s.eventTaken l).mgu = s.mgu :=
  ⟨rfl, rfl, rfl, rfl, rfl, rfl, rfl, rfl, rfl, rfl, rfl, rfl⟩

@[simp] theorem State.dropPresentation_frame (s : State) (l : LaneNo) :
    (s.dropPresentation l).pending = s.pending ∧ (s.dropPresentation l).inReset = s.inReset ∧
      (s.dropPresentation l).timebase = s.timebase ∧ (s.dropPresentation l).freeCount = s.freeCount ∧
      (s.dropPresentation l).adt = s.adt ∧ (s.dropPresentation l).hdu = s.hdu ∧
      (s.dropPresentation l).clt = s.clt ∧ (s.dropPresentation l).zcu = s.zcu ∧
      (s.dropPresentation l).tlu = s.tlu ∧ (s.dropPresentation l).grp = s.grp ∧
      (s.dropPresentation l).mgu = s.mgu :=
  ⟨rfl, rfl, rfl, rfl, rfl, rfl, rfl, rfl, rfl, rfl, rfl⟩

@[simp] theorem State.indicate_frame (s : State) (l : LaneNo) (i : Indication) :
    (s.indicate l i).pending = s.pending ∧ (s.indicate l i).inReset = s.inReset ∧
      (s.indicate l i).timebase = s.timebase ∧ (s.indicate l i).freeCount = s.freeCount ∧
      (s.indicate l i).adt = s.adt ∧ (s.indicate l i).hdu = s.hdu ∧ (s.indicate l i).clt = s.clt ∧
      (s.indicate l i).lanes = s.lanes ∧ (s.indicate l i).lbp = s.lbp ∧ (s.indicate l i).zcu = s.zcu ∧
      (s.indicate l i).grp = s.grp ∧ (s.indicate l i).mgu = s.mgu :=
  ⟨rfl, rfl, rfl, rfl, rfl, rfl, rfl, rfl, rfl, rfl, rfl, rfl⟩

@[simp] theorem State.lockArm_frame (s : State) (l : LaneNo) :
    (s.lockArm l).pending = s.pending ∧ (s.lockArm l).inReset = s.inReset ∧
      (s.lockArm l).timebase = s.timebase ∧ (s.lockArm l).freeCount = s.freeCount ∧ (s.lockArm l).adt = s.adt ∧
      (s.lockArm l).hdu = s.hdu ∧ (s.lockArm l).clt = s.clt ∧ (s.lockArm l).lanes = s.lanes ∧
      (s.lockArm l).lbp = s.lbp ∧ (s.lockArm l).zcu = s.zcu ∧ (s.lockArm l).grp = s.grp ∧
      (s.lockArm l).mgu = s.mgu :=
  ⟨rfl, rfl, rfl, rfl, rfl, rfl, rfl, rfl, rfl, rfl, rfl, rfl⟩

@[simp] theorem State.freeArm_frame (s : State) (l : LaneNo) :
    (s.freeArm l).pending = s.pending ∧ (s.freeArm l).inReset = s.inReset ∧
      (s.freeArm l).timebase = s.timebase ∧ (s.freeArm l).freeCount = s.freeCount ∧ (s.freeArm l).adt = s.adt ∧
      (s.freeArm l).hdu = s.hdu ∧ (s.freeArm l).clt = s.clt ∧ (s.freeArm l).lanes = s.lanes ∧
      (s.freeArm l).lbp = s.lbp ∧ (s.freeArm l).zcu = s.zcu ∧ (s.freeArm l).grp = s.grp ∧
      (s.freeArm l).mgu = s.mgu :=
  ⟨rfl, rfl, rfl, rfl, rfl, rfl, rfl, rfl, rfl, rfl, rfl, rfl⟩

@[simp] theorem State.releaseArm_frame (s : State) (l : LaneNo) :
    (s.releaseArm l).pending = s.pending ∧ (s.releaseArm l).inReset = s.inReset ∧
      (s.releaseArm l).timebase = s.timebase ∧ (s.releaseArm l).freeCount = s.freeCount ∧
      (s.releaseArm l).adt = s.adt ∧ (s.releaseArm l).hdu = s.hdu ∧ (s.releaseArm l).clt = s.clt ∧
      (s.releaseArm l).lanes = s.lanes ∧ (s.releaseArm l).lbp = s.lbp ∧ (s.releaseArm l).zcu = s.zcu ∧
      (s.releaseArm l).grp = s.grp ∧ (s.releaseArm l).mgu = s.mgu :=
  ⟨rfl, rfl, rfl, rfl, rfl, rfl, rfl, rfl, rfl, rfl, rfl, rfl⟩

@[simp] theorem State.enter_frame (s : State) (l : LaneNo) (st : LaneState) :
    (s.enter l st).pending = s.pending ∧ (s.enter l st).inReset = s.inReset ∧
      (s.enter l st).timebase = s.timebase ∧ (s.enter l st).freeCount = s.freeCount ∧
      (s.enter l st).adt = s.adt ∧ (s.enter l st).hdu = s.hdu ∧ (s.enter l st).clt = s.clt ∧
      (s.enter l st).lbp = s.lbp ∧ (s.enter l st).zcu = s.zcu ∧ (s.enter l st).grp = s.grp ∧
      (s.enter l st).mgu = s.mgu :=
  ⟨rfl, rfl, rfl, rfl, rfl, rfl, rfl, rfl, rfl, rfl, rfl⟩

@[simp] theorem State.settle_frame (s : State) (l : LaneNo) (i : Indication) :
    (s.settle l i).pending = s.pending ∧ (s.settle l i).inReset = s.inReset ∧
      (s.settle l i).timebase = s.timebase ∧ (s.settle l i).freeCount = s.freeCount ∧
      (s.settle l i).adt = s.adt ∧ (s.settle l i).hdu = s.hdu ∧ (s.settle l i).clt = s.clt ∧
      (s.settle l i).lbp = s.lbp ∧ (s.settle l i).zcu = s.zcu ∧ (s.settle l i).grp = s.grp ∧
      (s.settle l i).mgu = s.mgu :=
  ⟨rfl, rfl, rfl, rfl, rfl, rfl, rfl, rfl, rfl, rfl, rfl⟩

@[simp] theorem State.askZone_frame (s : State) (l : LaneNo) (a : ZoneAsk) :
    (s.askZone l a).pending = s.pending ∧ (s.askZone l a).inReset = s.inReset ∧
      (s.askZone l a).timebase = s.timebase ∧ (s.askZone l a).freeCount = s.freeCount ∧
      (s.askZone l a).adt = s.adt ∧ (s.askZone l a).hdu = s.hdu ∧ (s.askZone l a).clt = s.clt ∧
      (s.askZone l a).lanes = s.lanes ∧ (s.askZone l a).lbp = s.lbp ∧ (s.askZone l a).tlu = s.tlu ∧
      (s.askZone l a).grp = s.grp ∧ (s.askZone l a).mgu = s.mgu :=
  ⟨rfl, rfl, rfl, rfl, rfl, rfl, rfl, rfl, rfl, rfl, rfl, rfl⟩

@[simp] theorem State.reserve_frame (s : State) (l : LaneNo) :
    (s.reserve l).pending = s.pending ∧ (s.reserve l).inReset = s.inReset ∧
      (s.reserve l).timebase = s.timebase ∧ (s.reserve l).freeCount = s.freeCount ∧ (s.reserve l).adt = s.adt ∧
      (s.reserve l).hdu = s.hdu ∧ (s.reserve l).clt = s.clt ∧ (s.reserve l).lanes = s.lanes ∧
      (s.reserve l).lbp = s.lbp ∧ (s.reserve l).tlu = s.tlu ∧ (s.reserve l).grp = s.grp ∧
      (s.reserve l).mgu = s.mgu :=
  ⟨rfl, rfl, rfl, rfl, rfl, rfl, rfl, rfl, rfl, rfl, rfl, rfl⟩

@[simp] theorem State.placeDisposition_frame (s : State) (l : LaneNo) (d : Disposition) :
    (s.placeDisposition l d).pending = s.pending ∧ (s.placeDisposition l d).inReset = s.inReset ∧
      (s.placeDisposition l d).timebase = s.timebase ∧ (s.placeDisposition l d).freeCount = s.freeCount ∧
      (s.placeDisposition l d).adt = s.adt ∧ (s.placeDisposition l d).hdu = s.hdu ∧
      (s.placeDisposition l d).clt = s.clt ∧ (s.placeDisposition l d).lanes = s.lanes ∧
      (s.placeDisposition l d).zcu = s.zcu ∧ (s.placeDisposition l d).tlu = s.tlu ∧
      (s.placeDisposition l d).grp = s.grp ∧ (s.placeDisposition l d).mgu = s.mgu :=
  ⟨rfl, rfl, rfl, rfl, rfl, rfl, rfl, rfl, rfl, rfl, rfl, rfl⟩

@[simp] theorem State.dispose_frame (s : State) (l : LaneNo) (m : Message) (a : Nat) (k : Option Key) :
    (s.dispose l m a k).pending = s.pending ∧ (s.dispose l m a k).inReset = s.inReset ∧
      (s.dispose l m a k).timebase = s.timebase ∧ (s.dispose l m a k).freeCount = s.freeCount ∧
      (s.dispose l m a k).adt = s.adt ∧ (s.dispose l m a k).hdu = s.hdu ∧ (s.dispose l m a k).clt = s.clt ∧
      (s.dispose l m a k).zcu = s.zcu ∧ (s.dispose l m a k).tlu = s.tlu ∧ (s.dispose l m a k).grp = s.grp ∧
      (s.dispose l m a k).mgu = s.mgu :=
  ⟨rfl, rfl, rfl, rfl, rfl, rfl, rfl, rfl, rfl, rfl, rfl⟩

@[simp] theorem State.count_frame (s : State) (l : LaneNo) (f : LaneCounters → LaneCounters) :
    (s.count l f).pending = s.pending ∧ (s.count l f).inReset = s.inReset ∧
      (s.count l f).timebase = s.timebase ∧ (s.count l f).freeCount = s.freeCount ∧ (s.count l f).adt = s.adt ∧
      (s.count l f).hdu = s.hdu ∧ (s.count l f).clt = s.clt ∧ (s.count l f).lbp = s.lbp ∧
      (s.count l f).zcu = s.zcu ∧ (s.count l f).tlu = s.tlu ∧ (s.count l f).grp = s.grp ∧
      (s.count l f).mgu = s.mgu :=
  ⟨rfl, rfl, rfl, rfl, rfl, rfl, rfl, rfl, rfl, rfl, rfl, rfl⟩

@[simp] theorem State.countRefused_frame (s : State) (l : LaneNo) :
    (s.countRefused l).pending = s.pending ∧ (s.countRefused l).inReset = s.inReset ∧
      (s.countRefused l).timebase = s.timebase ∧ (s.countRefused l).freeCount = s.freeCount ∧
      (s.countRefused l).adt = s.adt ∧ (s.countRefused l).hdu = s.hdu ∧ (s.countRefused l).clt = s.clt ∧
      (s.countRefused l).lbp = s.lbp ∧ (s.countRefused l).zcu = s.zcu ∧ (s.countRefused l).tlu = s.tlu ∧
      (s.countRefused l).grp = s.grp ∧ (s.countRefused l).mgu = s.mgu :=
  ⟨rfl, rfl, rfl, rfl, rfl, rfl, rfl, rfl, rfl, rfl, rfl, rfl⟩

@[simp] theorem State.forced_frame (s : State) (l : LaneNo) :
    (s.forced l).pending = s.pending ∧ (s.forced l).inReset = s.inReset ∧ (s.forced l).timebase = s.timebase ∧
      (s.forced l).freeCount = s.freeCount ∧ (s.forced l).adt = s.adt ∧ (s.forced l).hdu = s.hdu ∧
      (s.forced l).clt = s.clt ∧ (s.forced l).lbp = s.lbp ∧ (s.forced l).zcu = s.zcu ∧
      (s.forced l).tlu = s.tlu ∧ (s.forced l).mgu = s.mgu :=
  ⟨rfl, rfl, rfl, rfl, rfl, rfl, rfl, rfl, rfl, rfl, rfl⟩

@[simp] theorem State.clearPresentation_frame (s : State) (l : LaneNo) :
    (s.clearPresentation l).pending = s.pending ∧ (s.clearPresentation l).inReset = s.inReset ∧
      (s.clearPresentation l).timebase = s.timebase ∧ (s.clearPresentation l).freeCount = s.freeCount ∧
      (s.clearPresentation l).adt = s.adt ∧ (s.clearPresentation l).hdu = s.hdu ∧
      (s.clearPresentation l).clt = s.clt ∧ (s.clearPresentation l).lbp = s.lbp ∧
      (s.clearPresentation l).zcu = s.zcu ∧ (s.clearPresentation l).tlu = s.tlu ∧
      (s.clearPresentation l).grp = s.grp ∧ (s.clearPresentation l).mgu = s.mgu :=
  ⟨rfl, rfl, rfl, rfl, rfl, rfl, rfl, rfl, rfl, rfl, rfl, rfl⟩

@[simp] theorem State.removePending_frame (s : State) (l : LaneNo) :
    (s.removePending l).pending = s.pending ∧ (s.removePending l).inReset = s.inReset ∧
      (s.removePending l).timebase = s.timebase ∧ (s.removePending l).freeCount = s.freeCount ∧
      (s.removePending l).adt = s.adt ∧ (s.removePending l).hdu = s.hdu ∧ (s.removePending l).lanes = s.lanes ∧
      (s.removePending l).lbp = s.lbp ∧ (s.removePending l).zcu = s.zcu ∧ (s.removePending l).tlu = s.tlu ∧
      (s.removePending l).grp = s.grp ∧ (s.removePending l).mgu = s.mgu :=
  ⟨rfl, rfl, rfl, rfl, rfl, rfl, rfl, rfl, rfl, rfl, rfl, rfl⟩

/-! ### Reading one item after a change -/

theorem State.lane_modLane (s : State) (l m : LaneNo) (f : Lane → Lane) :
    (s.modLane l f).lane m = if m = l then f (s.lane l) else s.lane m := modAt_get s.lanes l m f

theorem State.head_modHead (s : State) (l m : LaneNo) (f : Head → Head) :
    (s.modHead l f).head m = if m = l then f (s.head l) else s.head m := modAt_get s.lbp.heads l m f

theorem State.line_modLine (s : State) (l m : LaneNo) (f : Lines → Lines) :
    (s.modLine l f).line m = if m = l then f (s.line l) else s.line m := modAt_get s.tlu.lines l m f

theorem State.zone_modZone (s : State) (z w : ZoneNo) (f : Zone → Zone) :
    (s.modZone z f).zone w = if w = z then f (s.zone z) else s.zone w := modAt_get s.zcu.zones z w f

theorem State.place_setPlace (s : State) (l m : LaneNo) (e : Option TrackerEntry) :
    (s.setPlace l e).place m = if m = l then e else s.place m := modAt_get s.clt.tracker l m fun _ => e

theorem State.holdAt_setHold (s : State) (i j : HoldNo) (h : Option Hold) :
    (s.setHold i h).holdAt j = if j = i then h else s.holdAt j := modAt_get s.hdu.holds i j fun _ => h

@[simp] theorem State.lane_modLane_same (s : State) (l : LaneNo) (f : Lane → Lane) :
    (s.modLane l f).lane l = f (s.lane l) := by simp [State.lane_modLane]
@[simp] theorem State.head_modHead_same (s : State) (l : LaneNo) (f : Head → Head) :
    (s.modHead l f).head l = f (s.head l) := by simp [State.head_modHead]
@[simp] theorem State.line_modLine_same (s : State) (l : LaneNo) (f : Lines → Lines) :
    (s.modLine l f).line l = f (s.line l) := by simp [State.line_modLine]
@[simp] theorem State.zone_modZone_same (s : State) (z : ZoneNo) (f : Zone → Zone) :
    (s.modZone z f).zone z = f (s.zone z) := by simp [State.zone_modZone]
@[simp] theorem State.place_setPlace_same (s : State) (l : LaneNo) (e : Option TrackerEntry) :
    (s.setPlace l e).place l = e := by simp [State.place_setPlace]
@[simp] theorem State.holdAt_setHold_same (s : State) (i : HoldNo) (h : Option Hold) :
    (s.setHold i h).holdAt i = h := by simp [State.holdAt_setHold]

/-- An item is read off its block, so equal blocks give equal items. -/
theorem State.lane_congr {s t : State} (h : t.lanes = s.lanes) (l : LaneNo) : t.lane l = s.lane l := by
  simp [State.lane, h]
theorem State.head_congr {s t : State} (h : t.lbp = s.lbp) (l : LaneNo) : t.head l = s.head l := by
  simp [State.head, h]
theorem State.line_congr {s t : State} (h : t.tlu = s.tlu) (l : LaneNo) : t.line l = s.line l := by
  simp [State.line, h]
theorem State.zone_congr {s t : State} (h : t.zcu = s.zcu) (z : ZoneNo) : t.zone z = s.zone z := by
  simp [State.zone, h]
theorem State.place_congr {s t : State} (h : t.clt = s.clt) (l : LaneNo) : t.place l = s.place l := by
  simp [State.place, h]
theorem State.holdAt_congr {s t : State} (h : t.hdu = s.hdu) (i : HoldNo) : t.holdAt i = s.holdAt i := by
  simp [State.holdAt, h]
theorem State.recordAt_congr {s t : State} (h : t.adt = s.adt) (p : Nat) : t.recordAt p = s.recordAt p := by
  simp [State.recordAt, h]

end Sys2Proof.Machine
end

