-- ==== Sys2Proof/Laws/Ops.lean ====
section
/-! SUPPORT. For each shared operation that branches, the blocks of State it never touches, said once: callers cite
the lemma and do not unfold the operation. -/

namespace Sys2Proof.Machine

@[simp] theorem State.deliverVerdict_frame (s : State) (t : Tag) (k : Key) (v : Verdict) (a : Nat) :
    (s.deliverVerdict t k v a).pending = s.pending ∧ (s.deliverVerdict t k v a).inReset = s.inReset ∧
      (s.deliverVerdict t k v a).timebase = s.timebase ∧ (s.deliverVerdict t k v a).freeCount = s.freeCount ∧
      (s.deliverVerdict t k v a).adt = s.adt ∧ (s.deliverVerdict t k v a).hdu = s.hdu ∧
      (s.deliverVerdict t k v a).lanes = s.lanes ∧ (s.deliverVerdict t k v a).lbp = s.lbp ∧
      (s.deliverVerdict t k v a).zcu = s.zcu ∧ (s.deliverVerdict t k v a).tlu = s.tlu ∧
      (s.deliverVerdict t k v a).mgu = s.mgu := by
  unfold State.deliverVerdict; split <;> simp

@[simp] theorem State.offerIntake_frame (s : State) (e : Intake) :
    (s.offerIntake e).pending = s.pending ∧ (s.offerIntake e).inReset = s.inReset ∧
      (s.offerIntake e).timebase = s.timebase ∧ (s.offerIntake e).freeCount = s.freeCount ∧
      (s.offerIntake e).adt = s.adt ∧ (s.offerIntake e).lanes = s.lanes ∧ (s.offerIntake e).lbp = s.lbp ∧
      (s.offerIntake e).zcu = s.zcu ∧ (s.offerIntake e).tlu = s.tlu ∧ (s.offerIntake e).mgu = s.mgu := by
  unfold State.offerIntake; split <;> [split <;> simp; simp]

@[simp] theorem State.sendNotice_frame (s : State) (e : Intake) (k : Key) :
    (s.sendNotice e k).pending = s.pending ∧ (s.sendNotice e k).inReset = s.inReset ∧
      (s.sendNotice e k).timebase = s.timebase ∧ (s.sendNotice e k).freeCount = s.freeCount ∧
      (s.sendNotice e k).adt = s.adt ∧ (s.sendNotice e k).lanes = s.lanes ∧ (s.sendNotice e k).lbp = s.lbp ∧
      (s.sendNotice e k).zcu = s.zcu ∧ (s.sendNotice e k).tlu = s.tlu ∧ (s.sendNotice e k).mgu = s.mgu := by
  unfold State.sendNotice; simp only []; split <;> simp

@[simp] theorem State.releaseRecord_frame (s : State) (p : Nat) (u : UseFields) :
    (s.releaseRecord p u).pending = s.pending ∧ (s.releaseRecord p u).inReset = s.inReset ∧
      (s.releaseRecord p u).timebase = s.timebase ∧ (s.releaseRecord p u).freeCount = s.freeCount ∧
      (s.releaseRecord p u).hdu = s.hdu ∧ (s.releaseRecord p u).clt = s.clt ∧
      (s.releaseRecord p u).lanes = s.lanes ∧ (s.releaseRecord p u).lbp = s.lbp ∧
      (s.releaseRecord p u).zcu = s.zcu ∧ (s.releaseRecord p u).tlu = s.tlu ∧
      (s.releaseRecord p u).grp = s.grp ∧ (s.releaseRecord p u).mgu = s.mgu := by
  unfold State.releaseRecord; split <;> simp

@[simp] theorem State.endHold_frame (s : State) (i : HoldNo) (h : Hold) (u : UseFields) :
    (s.endHold i h u).pending = s.pending ∧ (s.endHold i h u).inReset = s.inReset ∧
      (s.endHold i h u).timebase = s.timebase ∧ (s.endHold i h u).freeCount = s.freeCount ∧
      (s.endHold i h u).clt = s.clt ∧ (s.endHold i h u).lanes = s.lanes ∧ (s.endHold i h u).lbp = s.lbp ∧
      (s.endHold i h u).zcu = s.zcu ∧ (s.endHold i h u).tlu = s.tlu ∧ (s.endHold i h u).grp = s.grp ∧
      (s.endHold i h u).mgu = s.mgu := by
  simp [State.endHold]

@[simp] theorem State.lapse_frame (s : State) (i : HoldNo) (h : Hold) (c : LapseCause) :
    (s.lapse i h c).pending = s.pending ∧ (s.lapse i h c).inReset = s.inReset ∧
      (s.lapse i h c).timebase = s.timebase ∧ (s.lapse i h c).freeCount = s.freeCount ∧
      (s.lapse i h c).clt = s.clt ∧ (s.lapse i h c).lanes = s.lanes ∧ (s.lapse i h c).lbp = s.lbp ∧
      (s.lapse i h c).zcu = s.zcu ∧ (s.lapse i h c).tlu = s.tlu ∧ (s.lapse i h c).mgu = s.mgu := by
  unfold State.lapse; split <;> simp

@[simp] theorem State.lapseIfOverdue_frame (s : State) (i : HoldNo) :
    (s.lapseIfOverdue i).pending = s.pending ∧ (s.lapseIfOverdue i).inReset = s.inReset ∧
      (s.lapseIfOverdue i).timebase = s.timebase ∧ (s.lapseIfOverdue i).freeCount = s.freeCount ∧
      (s.lapseIfOverdue i).clt = s.clt ∧ (s.lapseIfOverdue i).lanes = s.lanes ∧
      (s.lapseIfOverdue i).lbp = s.lbp ∧ (s.lapseIfOverdue i).zcu = s.zcu ∧ (s.lapseIfOverdue i).tlu = s.tlu ∧
      (s.lapseIfOverdue i).mgu = s.mgu := by
  unfold State.lapseIfOverdue; split <;> [split <;> simp; simp]

@[simp] theorem State.lapseReused_frame (s : State) (t : Tag) :
    (s.lapseReused t).pending = s.pending ∧ (s.lapseReused t).inReset = s.inReset ∧
      (s.lapseReused t).timebase = s.timebase ∧ (s.lapseReused t).freeCount = s.freeCount ∧
      (s.lapseReused t).clt = s.clt ∧ (s.lapseReused t).lanes = s.lanes ∧ (s.lapseReused t).lbp = s.lbp ∧
      (s.lapseReused t).zcu = s.zcu ∧ (s.lapseReused t).tlu = s.tlu ∧ (s.lapseReused t).mgu = s.mgu := by
  unfold State.lapseReused; split <;> [split <;> simp; simp]

@[simp] theorem State.createHold_frame (s : State) (i : HoldNo) (t : Tag) (p : Nat) (k : Kind) (r : Record) :
    (s.createHold i t p k r).pending = s.pending ∧ (s.createHold i t p k r).inReset = s.inReset ∧
      (s.createHold i t p k r).timebase = s.timebase ∧ (s.createHold i t p k r).freeCount = s.freeCount ∧
      (s.createHold i t p k r).clt = s.clt ∧ (s.createHold i t p k r).lanes = s.lanes ∧
      (s.createHold i t p k r).lbp = s.lbp ∧ (s.createHold i t p k r).zcu = s.zcu ∧
      (s.createHold i t p k r).tlu = s.tlu ∧ (s.createHold i t p k r).grp = s.grp ∧
      (s.createHold i t p k r).mgu = s.mgu := by
  simp [State.createHold]

@[simp] theorem State.reportDuplicate_frame
    (s : State) (kd : Kind) (u : UseFields) (k : Key) (o : Occasion) (tm : Nat) (w : UseOrigin) :
    (s.reportDuplicate kd u k o tm w).pending = s.pending ∧
      (s.reportDuplicate kd u k o tm w).inReset = s.inReset ∧
      (s.reportDuplicate kd u k o tm w).timebase = s.timebase ∧
      (s.reportDuplicate kd u k o tm w).freeCount = s.freeCount ∧
      (s.reportDuplicate kd u k o tm w).adt = s.adt ∧ (s.reportDuplicate kd u k o tm w).hdu = s.hdu ∧
      (s.reportDuplicate kd u k o tm w).clt = s.clt ∧ (s.reportDuplicate kd u k o tm w).lanes = s.lanes ∧
      (s.reportDuplicate kd u k o tm w).lbp = s.lbp ∧ (s.reportDuplicate kd u k o tm w).zcu = s.zcu ∧
      (s.reportDuplicate kd u k o tm w).tlu = s.tlu ∧ (s.reportDuplicate kd u k o tm w).mgu = s.mgu := by
  unfold State.reportDuplicate; split <;> simp

@[simp] theorem State.applyUse_frame (s : State) (k : Key) (kd : Kind) (tm : Nat) (w : UseOrigin) :
    (s.applyUse k kd tm w).pending = s.pending ∧ (s.applyUse k kd tm w).inReset = s.inReset ∧
      (s.applyUse k kd tm w).timebase = s.timebase ∧ (s.applyUse k kd tm w).freeCount = s.freeCount ∧
      (s.applyUse k kd tm w).clt = s.clt ∧ (s.applyUse k kd tm w).lanes = s.lanes ∧
      (s.applyUse k kd tm w).lbp = s.lbp ∧ (s.applyUse k kd tm w).zcu = s.zcu ∧
      (s.applyUse k kd tm w).tlu = s.tlu ∧ (s.applyUse k kd tm w).mgu = s.mgu := by
  unfold State.applyUse; repeat' split
  all_goals simp

@[simp] theorem State.releasePlace_frame (s : State) (l : LaneNo) :
    (s.releasePlace l).pending = s.pending ∧ (s.releasePlace l).inReset = s.inReset ∧
      (s.releasePlace l).timebase = s.timebase ∧ (s.releasePlace l).freeCount = s.freeCount ∧
      (s.releasePlace l).adt = s.adt ∧ (s.releasePlace l).hdu = s.hdu ∧ (s.releasePlace l).clt = s.clt ∧
      (s.releasePlace l).lanes = s.lanes ∧ (s.releasePlace l).lbp = s.lbp ∧ (s.releasePlace l).tlu = s.tlu ∧
      (s.releasePlace l).grp = s.grp ∧ (s.releasePlace l).mgu = s.mgu := by
  unfold State.releasePlace; split <;> simp

@[simp] theorem State.serveZone_frame (s : State) (l : LaneNo) :
    (s.serveZone l).pending = s.pending ∧ (s.serveZone l).inReset = s.inReset ∧
      (s.serveZone l).timebase = s.timebase ∧ (s.serveZone l).freeCount = s.freeCount ∧
      (s.serveZone l).adt = s.adt ∧ (s.serveZone l).hdu = s.hdu ∧ (s.serveZone l).clt = s.clt ∧
      (s.serveZone l).lanes = s.lanes ∧ (s.serveZone l).lbp = s.lbp ∧ (s.serveZone l).tlu = s.tlu ∧
      (s.serveZone l).grp = s.grp ∧ (s.serveZone l).mgu = s.mgu := by
  unfold State.serveZone; split <;> simp

@[simp] theorem State.beginPassage_frame (s : State) (l : LaneNo) (p : Passage) (i : Indication) :
    (s.beginPassage l p i).pending = s.pending ∧ (s.beginPassage l p i).inReset = s.inReset ∧
      (s.beginPassage l p i).timebase = s.timebase ∧ (s.beginPassage l p i).freeCount = s.freeCount ∧
      (s.beginPassage l p i).adt = s.adt ∧ (s.beginPassage l p i).hdu = s.hdu ∧
      (s.beginPassage l p i).clt = s.clt ∧ (s.beginPassage l p i).lbp = s.lbp ∧
      (s.beginPassage l p i).zcu = s.zcu ∧ (s.beginPassage l p i).grp = s.grp ∧
      (s.beginPassage l p i).mgu = s.mgu := by
  unfold State.beginPassage; simp only []; split <;> simp

@[simp] theorem State.disown_frame (s : State) (l : LaneNo) :
    (s.disown l).pending = s.pending ∧ (s.disown l).inReset = s.inReset ∧ (s.disown l).timebase = s.timebase ∧
      (s.disown l).freeCount = s.freeCount ∧ (s.disown l).adt = s.adt ∧ (s.disown l).hdu = s.hdu ∧
      (s.disown l).lanes = s.lanes ∧ (s.disown l).lbp = s.lbp ∧ (s.disown l).zcu = s.zcu ∧
      (s.disown l).tlu = s.tlu ∧ (s.disown l).grp = s.grp ∧ (s.disown l).mgu = s.mgu := by
  unfold State.disown; split <;> simp

@[simp] theorem State.abandonPassage_frame (s : State) (l : LaneNo) :
    (s.abandonPassage l).pending = s.pending ∧ (s.abandonPassage l).inReset = s.inReset ∧
      (s.abandonPassage l).timebase = s.timebase ∧ (s.abandonPassage l).freeCount = s.freeCount ∧
      (s.abandonPassage l).adt = s.adt ∧ (s.abandonPassage l).lanes = s.lanes ∧
      (s.abandonPassage l).lbp = s.lbp ∧ (s.abandonPassage l).tlu = s.tlu ∧ (s.abandonPassage l).mgu = s.mgu := by
  unfold State.abandonPassage; simp only [State.releasePlace_frame]
  split <;> [split <;> simp; simp; simp]

@[simp] theorem State.endWork_frame (s : State) (l : LaneNo) :
    (s.endWork l).pending = s.pending ∧ (s.endWork l).inReset = s.inReset ∧
      (s.endWork l).timebase = s.timebase ∧ (s.endWork l).freeCount = s.freeCount ∧ (s.endWork l).adt = s.adt ∧
      (s.endWork l).lbp = s.lbp ∧ (s.endWork l).tlu = s.tlu ∧ (s.endWork l).mgu = s.mgu := by
  unfold State.endWork; simp only [State.clearPresentation_frame]; split <;> simp

@[simp] theorem State.logPending_frame
    (s : State) (l : LaneNo) (e : TrackerEntry) (k : Kind) (f : LogRecord → Result) :
    (s.logPending l e k f).pending = s.pending ∧ (s.logPending l e k f).inReset = s.inReset ∧
      (s.logPending l e k f).timebase = s.timebase ∧ (s.logPending l e k f).freeCount = s.freeCount ∧
      (s.logPending l e k f).adt = s.adt ∧ (s.logPending l e k f).hdu = s.hdu ∧
      (s.logPending l e k f).lbp = s.lbp ∧ (s.logPending l e k f).zcu = s.zcu ∧
      (s.logPending l e k f).tlu = s.tlu ∧ (s.logPending l e k f).grp = s.grp ∧
      (s.logPending l e k f).mgu = s.mgu := by
  simp [State.logPending]

@[simp] theorem State.unreachable_frame (s : State) (l : LaneNo) (e : TrackerEntry) :
    (s.unreachable l e).pending = s.pending ∧ (s.unreachable l e).inReset = s.inReset ∧
      (s.unreachable l e).timebase = s.timebase ∧ (s.unreachable l e).freeCount = s.freeCount ∧
      (s.unreachable l e).adt = s.adt ∧ (s.unreachable l e).hdu = s.hdu ∧ (s.unreachable l e).lbp = s.lbp ∧
      (s.unreachable l e).zcu = s.zcu ∧ (s.unreachable l e).tlu = s.tlu ∧ (s.unreachable l e).grp = s.grp ∧
      (s.unreachable l e).mgu = s.mgu := by
  unfold State.unreachable State.provisionalEntry State.provisionalExit; simp only []
  repeat' split
  all_goals simp

@[simp] theorem State.unreachableIfRemote_frame (s : State) (l : LaneNo) :
    (s.unreachableIfRemote l).pending = s.pending ∧ (s.unreachableIfRemote l).inReset = s.inReset ∧
      (s.unreachableIfRemote l).timebase = s.timebase ∧ (s.unreachableIfRemote l).freeCount = s.freeCount ∧
      (s.unreachableIfRemote l).adt = s.adt ∧ (s.unreachableIfRemote l).hdu = s.hdu ∧
      (s.unreachableIfRemote l).lbp = s.lbp ∧ (s.unreachableIfRemote l).zcu = s.zcu ∧
      (s.unreachableIfRemote l).tlu = s.tlu ∧ (s.unreachableIfRemote l).grp = s.grp ∧
      (s.unreachableIfRemote l).mgu = s.mgu := by
  unfold State.unreachableIfRemote; split <;> [split <;> simp; simp]

end Sys2Proof.Machine
end

