-- ==== Sys2Proof/Laws/Bounds.lean ====
section
/-! SUPPORT. The bounds of queues and counters through each shared operation. -/

namespace Sys2Proof.Machine

theorem bump_le {n : Nat} (h : n ≤ 65535) : bump n ≤ 65535 := by
  unfold bump Config.maxCounter; split <;> omega

/-- The bounds look at five blocks only. -/
theorem State.QueuesBounded.of_eq {s t : State} (h : s.QueuesBounded) (h1 : t.hdu = s.hdu) (h2 : t.clt = s.clt)
    (h3 : t.grp = s.grp) (h4 : t.mgu = s.mgu) (h5 : t.zcu = s.zcu) : t.QueuesBounded :=
  ⟨h1 ▸ h.hdu, h2 ▸ h.clt, h3 ▸ h.grp, h4 ▸ h.mgu, h5 ▸ h.zcu⟩

theorem Grp.Bounded.offer {g : Grp} (h : g.Bounded) (c : LocalCell) : (g.offer c).Bounded := by
  have h1 := h.localQueue
  have h2 := h.general
  unfold Grp.offer
  split
  · rename_i ha
    have hall : g.localQueue.length < 32 ∧ (c.body.general = true → g.generalFill < 24) := by
      unfold Grp.accepts Grp.generalRoom Config.generalPlaces Config.localPlaces at ha
      cases hg : c.body.general <;> simp_all
    refine ⟨h.transit, ?_, ?_, h.straps, h.counters⟩
    · simp only [List.length_append, List.length_singleton]; omega
    · unfold Grp.generalFill at h2 hall ⊢
      simp only [List.filter_append, List.length_append, List.filter_cons, List.filter_nil]
      cases hg : c.body.general <;> simp_all
  · split
    · have hc := h.counters
      exact ⟨h.transit, h1, h2, h.straps, hc.1, hc.2.1, hc.2.2.1, hc.2.2.2.1, hc.2.2.2.2.1, bump_le hc.2.2.2.2.2.1,
        hc.2.2.2.2.2.2⟩
    · exact h

theorem State.QueuesBounded.offer {s : State} (h : s.QueuesBounded) (c : LocalCell) : (s.offer c).QueuesBounded :=
  ⟨h.hdu, h.clt, h.grp.offer c, h.mgu, h.zcu⟩

theorem State.QueuesBounded.report {s : State} (h : s.QueuesBounded) (r : Report) : (s.report r).QueuesBounded := by
  refine ⟨h.hdu, h.clt, ?_, h.mgu, h.zcu⟩
  simp only [State.report]
  split
  · exact h.grp.offer _
  · exact h.grp

theorem State.QueuesBounded.reply {s : State} (h : s.QueuesBounded) (c : MgmtCell) (st : Status) (d : ReplyData) :
    (s.reply c st d).QueuesBounded := h.offer _

theorem Hdu.Bounded.join {h : Hdu} (hb : h.Bounded) (e : Intake) : (h.join e).Bounded := by
  have h1 := hb.intake
  have h2 := hb.claims
  have hle : (h.intake.filter Intake.isClaim).length ≤ h.intake.length := List.length_filter_le ..
  have hj : h.join e = { h with intake := h.intake ++ [e] } ∧ h.intake.length < 48 ∧
      (e.isClaim = true → h.intake.length < 32) ∨ h.join e = h ∨
      h.join e = { h with noticeDrops := bump h.noticeDrops } := by
    unfold Hdu.join Config.intakeClaimPlaces Config.intakePlaces
    cases he : e.isClaim <;> simp only [if_true, if_false, Bool.false_eq_true] <;> split <;> simp_all
    omega
  rcases hj with ⟨hj, hl, hc⟩ | hj | hj <;> rw [hj]
  · refine ⟨?_, ?_, hb.counters⟩
    · simp only [List.length_append, List.length_singleton]; omega
    · simp only [List.filter_append, List.length_append, List.filter_cons, List.filter_nil]
      cases he : e.isClaim <;> simp_all
      omega
  · exact hb
  · exact ⟨h1, h2, bump_le hb.counters.1, hb.counters.2⟩

theorem State.QueuesBounded.handVerdict {s : State} (h : s.QueuesBounded) (v : HandedVerdict) :
    (s.handVerdict v).QueuesBounded :=
  ⟨h.hdu, ⟨h.clt.log, h.clt.entries, h.clt.counters⟩, h.grp, h.mgu, h.zcu⟩

theorem State.QueuesBounded.deliverVerdict {s : State} (h : s.QueuesBounded) (t : Tag) (k : Key) (v : Verdict)
    (a : Nat) :
    (s.deliverVerdict t k v a).QueuesBounded := by
  unfold State.deliverVerdict; split
  · exact h.handVerdict _
  · exact h.offer _

theorem State.QueuesBounded.offerIntake {s : State} (h : s.QueuesBounded) (e : Intake) :
    (s.offerIntake e).QueuesBounded := by
  unfold State.offerIntake
  split
  · split
    · exact ⟨h.hdu.join _, h.clt, h.grp, h.mgu, h.zcu⟩
    · exact h.deliverVerdict ..
  · exact ⟨h.hdu.join _, h.clt, h.grp, h.mgu, h.zcu⟩

theorem State.QueuesBounded.sendNotice {s : State} (h : s.QueuesBounded) (e : Intake) (k : Key) :
    (s.sendNotice e k).QueuesBounded := by
  unfold State.sendNotice; simp only []; split
  · exact h.offerIntake _
  · exact h.offer _

theorem State.QueuesBounded.setHold {s : State} (h : s.QueuesBounded) (i : HoldNo) (x : Option Hold) :
    (s.setHold i x).QueuesBounded :=
  ⟨⟨h.hdu.intake, h.hdu.claims, h.hdu.counters⟩, h.clt, h.grp, h.mgu, h.zcu⟩

theorem State.QueuesBounded.setPlace {s : State} (h : s.QueuesBounded) (l : LaneNo) (e : Option TrackerEntry) :
    (s.setPlace l e).QueuesBounded := ⟨h.hdu, ⟨h.clt.log, h.clt.entries, h.clt.counters⟩, h.grp, h.mgu, h.zcu⟩

theorem State.QueuesBounded.setLog {s : State} (h : s.QueuesBounded) (log : List LogRecord) (h1 : log.length ≤ 256)
    (h2 : log.Pairwise fun a b => ¬(a.kind = .entry ∧ b.kind = .entry ∧ a.key = b.key)) :
    (s.setLog log).QueuesBounded :=
  ⟨h.hdu, ⟨h1, h2, h.clt.counters⟩, h.grp, h.mgu, h.zcu⟩

theorem State.QueuesBounded.releaseRecord {s : State} (h : s.QueuesBounded) (p : Nat) (u : UseFields) :
    (s.releaseRecord p u).QueuesBounded := h.of_eq (by simp) (by simp) (by simp) (by simp) (by simp)

theorem State.QueuesBounded.endHold {s : State} (h : s.QueuesBounded) (i : HoldNo) (x : Hold) (u : UseFields) :
    (s.endHold i x u).QueuesBounded := (h.releaseRecord _ _).setHold _ _

theorem State.QueuesBounded.lapse {s : State} (h : s.QueuesBounded) (i : HoldNo) (x : Hold) (c : LapseCause) :
    (s.lapse i x c).QueuesBounded := by
  unfold State.lapse; split
  · exact (h.endHold ..).report _
  · exact h.endHold ..

theorem State.QueuesBounded.lapseIfOverdue {s : State} (h : s.QueuesBounded) (i : HoldNo) :
    (s.lapseIfOverdue i).QueuesBounded := by
  unfold State.lapseIfOverdue; split
  · split
    · exact h.lapse ..
    · exact h
  · exact h

theorem State.QueuesBounded.lapseOverdue {s : State} (h : s.QueuesBounded) : s.lapseOverdue.QueuesBounded := by
  unfold State.lapseOverdue
  generalize holdNos = is
  induction is generalizing s with
  | nil => exact h
  | cons i is ih => exact ih (h.lapseIfOverdue i)

theorem State.QueuesBounded.lapseReused {s : State} (h : s.QueuesBounded) (t : Tag) :
    (s.lapseReused t).QueuesBounded := by
  unfold State.lapseReused; split
  · split
    · exact h.lapse ..
    · exact h
  · exact h

theorem State.QueuesBounded.createHold {s : State} (h : s.QueuesBounded) (i : HoldNo) (t : Tag) (p : Nat) (k : Kind)
    (r : Record) :
    (s.createHold i t p k r).QueuesBounded :=
  ⟨⟨h.hdu.intake, h.hdu.claims, h.hdu.counters⟩, h.clt, h.grp, h.mgu, h.zcu⟩

theorem State.QueuesBounded.writeRecord {s : State} (h : s.QueuesBounded) (p : Nat) (r : Record) :
    (s.writeRecord p r).QueuesBounded :=
  ⟨h.hdu, h.clt, h.grp, h.mgu, h.zcu⟩

theorem State.QueuesBounded.reportDuplicate {s : State} (h : s.QueuesBounded) (kd : Kind) (u : UseFields) (k : Key)
    (o : Occasion) (tm : Nat) (w : UseOrigin) : (s.reportDuplicate kd u k o tm w).QueuesBounded := by
  unfold State.reportDuplicate; split
  · exact h.report _
  · exact h

theorem State.QueuesBounded.applyUse {s : State} (h : s.QueuesBounded) (k : Key) (kd : Kind) (tm : Nat)
    (w : UseOrigin) : (s.applyUse k kd tm w).QueuesBounded := by
  unfold State.applyUse
  repeat' split
  all_goals first
    | exact h.report _ | exact (h.writeRecord ..).reportDuplicate .. | exact (h.setHold ..).reportDuplicate ..
    | exact h

theorem dropPending_sublist (l : Nat) (log : List LogRecord) : (dropPending l log).Sublist log := by
  induction log with
  | nil => exact .slnil
  | cons r rs ih =>
    simp only [dropPending]; split
    · exact List.sublist_cons_self r rs
    · exact ih.cons_cons r

theorem markDone_length (l time : Nat) (log : List LogRecord) : (markDone l time log).length = log.length := by
  induction log with
  | nil => rfl
  | cons r rs ih => simp only [markDone]; split <;> simp [ih]

/-- Marking a record DONE changes no kind and no key. -/
theorem markDone_names (l time : Nat) (log : List LogRecord) :
    (markDone l time log).map (fun r => (r.kind, r.key)) = log.map fun r => (r.kind, r.key) := by
  induction log with
  | nil => rfl
  | cons r rs ih => simp only [markDone]; split <;> simp [ih]

theorem entries_of_names {a b : List LogRecord} (h : a.map (fun r => (r.kind, r.key)) = b.map fun r => (r.kind, r.key))
    (hb : b.Pairwise fun x y => ¬(x.kind = .entry ∧ y.kind = .entry ∧ x.key = y.key)) :
    a.Pairwise fun x y => ¬(x.kind = .entry ∧ y.kind = .entry ∧ x.key = y.key) := by
  have e (c : List LogRecord) : c.Pairwise (fun x y => ¬(x.kind = .entry ∧ y.kind = .entry ∧ x.key = y.key)) ↔
      (c.map fun r => (r.kind, r.key)).Pairwise fun x y => ¬(x.1 = .entry ∧ y.1 = .entry ∧ x.2 = y.2) := by
    rw [List.pairwise_map]
  rw [e, h, ← e]; exact hb

theorem State.QueuesBounded.removePending {s : State} (h : s.QueuesBounded) (l : LaneNo) :
    (s.removePending l).QueuesBounded :=
  h.setLog _ (le_trans (dropPending_sublist l s.clt.log).length_le h.clt.log)
    (h.clt.entries.sublist (dropPending_sublist l _))

theorem State.QueuesBounded.disown {s : State} (h : s.QueuesBounded) (l : LaneNo) : (s.disown l).QueuesBounded := by
  unfold State.disown; split
  · exact h.setPlace ..
  · exact h.removePending _

theorem State.QueuesBounded.releasePlace {s : State} (h : s.QueuesBounded) (l : LaneNo) :
    (s.releasePlace l).QueuesBounded := by
  unfold State.releasePlace; split
  · exact ⟨h.hdu, h.clt, h.grp, h.mgu, h.zcu⟩
  · exact h

theorem State.QueuesBounded.askZone {s : State} (h : s.QueuesBounded) (l : LaneNo) (a : ZoneAsk) :
    (s.askZone l a).QueuesBounded :=
  ⟨h.hdu, h.clt, h.grp, h.mgu, h.zcu⟩

theorem State.QueuesBounded.modZone {s : State} (h : s.QueuesBounded) (z : ZoneNo) (f : Zone → Zone)
    (hf : (f (s.zone z)).count ≤ 65535 ∧ (f (s.zone z)).underflow ≤ 65535 ∧ (f (s.zone z)).quota ≤ 65535) :
    (s.modZone z f).QueuesBounded := by
  refine ⟨h.hdu, h.clt, h.grp, h.mgu, fun i => ?_⟩
  have e : (s.modZone z f).zcu.zones[i] = if i = z then f (s.zone z) else s.zone i := s.zone_modZone z i f
  rw [e]
  split
  · exact hf
  · exact h.zcu i

theorem ZoneAsk.apply_bounded (a : ZoneAsk) (z : Zone)
    (h : z.count ≤ 65535 ∧ z.underflow ≤ 65535 ∧ z.quota ≤ 65535) :
    (a.apply z).count ≤ 65535 ∧ (a.apply z).underflow ≤ 65535 ∧ (a.apply z).quota ≤ 65535 := by
  cases a
  · exact ⟨bump_le h.1, h.2⟩
  · exact h
  · simp only [ZoneAsk.apply, Zone.exit]; split
    · exact ⟨by simp only; omega, h.2⟩
    · exact ⟨h.1, bump_le h.2.1, h.2.2⟩

theorem State.QueuesBounded.serveZone {s : State} (h : s.QueuesBounded) (l : LaneNo) :
    (s.serveZone l).QueuesBounded := by
  unfold State.serveZone; split
  · have h1 : State.QueuesBounded { s with zcu := { s.zcu with requests := dropRequest l s.zcu.requests } } :=
      ⟨h.hdu, h.clt, h.grp, h.mgu, h.zcu⟩
    exact h1.modZone _ _ (ZoneAsk.apply_bounded _ _ (h.zcu _))
  · exact h

theorem State.QueuesBounded.serveZoneAll {s : State} (h : s.QueuesBounded) (l : LaneNo) :
    (s.serveZoneAll l).QueuesBounded := by
  unfold State.serveZoneAll
  generalize List.filter _ _ = rs
  induction rs generalizing s with
  | nil => exact h
  | cons r rs ih => exact ih (h.serveZone l)

theorem State.QueuesBounded.reserve {s : State} (h : s.QueuesBounded) (l : LaneNo) : (s.reserve l).QueuesBounded :=
  h.modZone _ _ (h.zcu _)

theorem State.QueuesBounded.abandonPassage {s : State} (h : s.QueuesBounded) (l : LaneNo) :
    (s.abandonPassage l).QueuesBounded := by
  unfold State.abandonPassage
  simp only []
  apply State.QueuesBounded.releasePlace
  split
  · split
    · exact h.sendNotice ..
    · exact h
  · exact h.removePending _
  · exact h

/-- What changes only lanes, lines, heads and the rest keeps the bounds. -/
theorem State.QueuesBounded.modLane {s : State} (h : s.QueuesBounded) (l : LaneNo) (f : Lane → Lane) :
    (s.modLane l f).QueuesBounded :=
  ⟨h.hdu, h.clt, h.grp, h.mgu, h.zcu⟩

theorem State.QueuesBounded.endWork {s : State} (h : s.QueuesBounded) (l : LaneNo) : (s.endWork l).QueuesBounded := by
  unfold State.endWork
  simp only []
  apply State.QueuesBounded.modLane
  split
  · exact (h.disown l).releasePlace l
  · exact h.abandonPassage l
  · exact h

theorem State.QueuesBounded.hand {s : State} (h : s.QueuesBounded) (l : LaneNo) (e : LaneEvent) :
    (s.hand l e).QueuesBounded :=
  h.modLane ..

theorem State.QueuesBounded.logPending {s : State} (h : s.QueuesBounded) (l : LaneNo) (e : TrackerEntry) (kind : Kind)
    (f : LogRecord → Result) (hl : s.clt.log.length < 256)
    (hk : kind = .entry → logHasEntry s.clt.log e.key = false) : (s.logPending l e kind f).QueuesBounded := by
  unfold State.logPending
  simp only []
  apply State.QueuesBounded.hand
  refine h.setLog _ (by simp; omega) ?_
  rw [List.pairwise_append]
  refine ⟨h.clt.entries, List.pairwise_singleton .., fun a ha b hb hab => ?_⟩
  simp only [List.mem_singleton] at hb
  subst hb
  have := hk hab.2.1
  simp only [logHasEntry, List.any_eq_false] at this
  exact this a ha (by simp [hab.1, hab.2.2])

theorem State.QueuesBounded.unreachable {s : State} (h : s.QueuesBounded) (l : LaneNo) (e : TrackerEntry) :
    (s.unreachable l e).QueuesBounded := by
  unfold State.unreachable
  simp only []
  split
  · exact (h.setPlace l none).hand ..
  · unfold State.provisionalEntry
    split
    · exact (h.setPlace l none).hand ..
    · split
      · exact (h.setPlace l none).hand ..
      · rename_i h1 h2
        refine (h.setPlace l none).logPending _ _ _ _ ?_ ?_
        · simpa [Config.logPlaces] using h2
        · intro _; simpa using h1
  · unfold State.provisionalExit
    split
    · rename_i h1
      exact (h.setPlace l none).logPending _ _ _ _ (by simpa [Config.logPlaces] using h1) (by simp)
    · apply State.QueuesBounded.hand
      have hc := h.clt.counters
      exact ⟨h.hdu, ⟨h.clt.log, h.clt.entries, hc.1, bump_le hc.2.1, hc.2.2⟩, h.grp, h.mgu, h.zcu⟩

theorem State.QueuesBounded.unreachableIfRemote {s : State} (h : s.QueuesBounded) (l : LaneNo) :
    (s.unreachableIfRemote l).QueuesBounded := by
  unfold State.unreachableIfRemote; split
  · split
    · exact h.unreachable ..
    · exact h
  · exact h

end Sys2Proof.Machine
end

