-- ==== Sys2Proof/Laws/Bytes.lean ====
section
/-! SUPPORT. Reading back the bytes of the cells: the big-endian numbers, the fields of a payload, and that every command
read from a management cell is one a cell can carry. -/

namespace Sys2Proof.Machine

@[simp] theorem beBytes_length (k n : Nat) : (beBytes k n).length = k := by
  induction k with
  | zero => rfl
  | succ k ih => simp [beBytes, ih]

theorem foldl_beNat (acc : Nat) (bytes : List Byte) :
    bytes.foldl (fun acc b => acc * 256 + b.toNat) acc = acc * 256 ^ bytes.length + beNat bytes := by
  unfold beNat
  induction bytes generalizing acc with
  | nil => simp
  | cons b bytes ih => simp only [List.foldl_cons, List.length_cons]; rw [ih, ih (0 * 256 + _)]; ring

theorem beNat_cons (b : Byte) (bytes : List Byte) :
    beNat (b :: bytes) = b.toNat * 256 ^ bytes.length + beNat bytes := by
  rw [← foldl_beNat, beNat, List.foldl_cons, Nat.zero_mul, Nat.zero_add]

theorem beNat_lt (bytes : List Byte) : beNat bytes < 256 ^ bytes.length := by
  induction bytes with
  | nil => simp [beNat]
  | cons b bytes ih =>
    have hb : b.toNat < 256 := b.isLt
    rw [beNat_cons, List.length_cons, pow_succ]
    nlinarith [Nat.mul_le_mul_right (256 ^ bytes.length) (show b.toNat + 1 ≤ 256 by omega)]

/-- What is written is read back, as far as its bytes hold it. -/
theorem beNat_beBytes (k n : Nat) : beNat (beBytes k n) = n % 256 ^ k := by
  induction k with
  | zero => simp [beBytes, beNat, Nat.mod_one]
  | succ k ih =>
    simp only [beBytes, beNat_cons, beBytes_length, ih, BitVec.toNat_ofNat]
    rw [show (2 : Nat) ^ 8 = 256 by norm_num, Nat.pow_succ, Nat.mod_mul]
    ring

theorem natAt_lt (bytes : List Byte) (off len : Nat) : natAt bytes off len < 256 ^ len :=
  (beNat_lt _).trans_le (Nat.pow_le_pow_right (by norm_num) (by simp [slice]))

/-! ### A payload written piece by piece -/

theorem byteAt_skip (b : Byte) (bytes : List Byte) (off : Nat) : byteAt (b :: bytes) (off + 1) = byteAt bytes off := by
  simp [byteAt]

theorem byteAt_here (b : Byte) (bytes : List Byte) : byteAt (b :: bytes) 0 = b := by simp [byteAt]

theorem byteAt_pass (a bytes : List Byte) (off : Nat) (h : a.length ≤ off) :
    byteAt (a ++ bytes) off = byteAt bytes (off - a.length) := by
  simp [byteAt, List.getElem?_append_right h]

theorem natAt_pass (a bytes : List Byte) (off len : Nat) (h : a.length ≤ off) :
    natAt (a ++ bytes) off len = natAt bytes (off - a.length) len := by
  simp only [natAt, slice, List.drop_append, List.drop_eq_nil_of_le h, List.nil_append]

theorem natAt_beBytes (k n : Nat) (bytes : List Byte) : natAt (beBytes k n ++ bytes) 0 k = n % 256 ^ k := by
  rw [natAt, slice, List.drop_zero, List.take_left' (beBytes_length k n), beNat_beBytes]

theorem natAt_one (bytes : List Byte) (off : Nat) (h : off < bytes.length) :
    natAt bytes off 1 = (byteAt bytes off).toNat := by
  obtain ⟨b, l, hb⟩ : ∃ b l, bytes.drop off = b :: l := ⟨_, _, List.drop_eq_getElem_cons h⟩
  have : bytes[off]? = some b := by rw [← List.head?_drop, hb]; rfl
  simp [natAt, slice, hb, beNat, byteAt, this]

/-! ### What a cell can carry -/

theorem keyAt_fits (p : List Byte) (off : Nat) : (keyAt p off).fits :=
  ⟨by simpa [keyAt] using natAt_lt p (off + 1) 1, by simpa [keyAt] using natAt_lt p (off + 2) 8⟩

theorem tagAt_fits (p : List Byte) (off : Nat) : (tagAt p off).fits :=
  ⟨by simpa [tagAt] using natAt_lt p off 1, by simpa [tagAt] using natAt_lt p (off + 1) 1,
    by simpa [tagAt] using natAt_lt p (off + 2) 1⟩

theorem imageAt_fits (p : List Byte) (off : Nat) : (imageAt p off).fits := by
  have h1 := natAt_lt p (off + 10) 1
  have h2 := natAt_lt p (off + 12) 1
  refine ⟨keyAt_fits _ _, ?_, ?_, ?_, ?_, ?_⟩ <;> simp only [imageAt] <;> omega

/-- Every command of a management cell is one its bytes can carry. -/
theorem commandOf_fits (code : Byte) (a : List Byte) : (commandOf code a).fits := by
  unfold commandOf
  split
  case h_22 => unfold Command.fits; simp only [imp_false] at *; omega
  all_goals first
    | exact imageAt_fits _ _
    | exact keyAt_fits _ _
    | exact trivial
    | exact ⟨natAt_lt _ _ 1, imageAt_fits _ _, imageAt_fits _ _⟩
    | exact ⟨natAt_lt _ _ 1, natAt_lt _ _ 1, natAt_lt _ _ 1, natAt_lt _ _ 1, natAt_lt _ _ 1⟩
    | exact ⟨natAt_lt _ _ 1, natAt_lt _ _ 2⟩
    | exact ⟨natAt_lt _ _ 2, natAt_lt _ _ 1⟩
    | exact natAt_lt _ _ 1
    | exact natAt_lt _ _ 2
    | exact natAt_lt _ _ 4

end Sys2Proof.Machine
end

