-- ==== Sys2Proof/Laws/Lanes.lean ====
section
/-! SUPPORT. When a command for a lane is executed, and when it waits for its turn. -/

namespace Sys2Proof.Machine

theorem State.turnWaits_of_turn {s : State} {l : LaneNo} (h : s.turnOf l) : s.turnWaits l.val = false := by
  have hw : (s.lane l).eventWaits = false :=
    List.any_eq_false.mpr fun e he => by simp [h e he]
  simp [State.turnWaits, hw]

theorem State.turnWaits_of_event {s : State} {l : LaneNo} (hs : s.grp.position < s.grp.size)
    (h : ∃ e ∈ (s.lane l).events, e.isPresentation = false) : s.turnWaits l.val = true := by
  obtain ⟨e, he, hp⟩ := h
  have hw : (s.lane l).eventWaits = true := List.any_eq_true.mpr ⟨e, he, by simp [hp]⟩
  simp [State.turnWaits, hw, Grp.strapFault, hs]

/-- A number that names no lane waits for none. -/
theorem State.turnWaits_of_no_lane {s : State} {n : Nat} (h : 15 < n) : s.turnWaits n = false := by
  rw [State.turnWaits, dif_neg (by omega)]

/-- In STRAP_FAULT no command waits for a lane (R155). -/
theorem State.turnWaits_of_strapFault {s : State} (n : Nat) (h : s.grp.size ≤ s.grp.position) :
    s.turnWaits n = false := by
  unfold State.turnWaits
  split <;> simp [Grp.strapFault, h]

/-- A command for a lane leaves the state as it is, or is executed. -/
theorem State.executeOnLane_cases (s : State) (n : Nat) (c : MgmtCell) (rest : List MgmtCell) (run : State → Answer) :
    s.executeOnLane n c rest run = s ∧ s.turnWaits n = true ∨
      s.executeOnLane n c rest run = s.execute c rest run ∧ s.turnWaits n = false := by
  unfold State.executeOnLane
  cases h : s.turnWaits n <;> simp

end Sys2Proof.Machine
end

