-- ==== Sys2Proof/Laws/Table.lean ====
section
/-! SUPPORT. The admission table as a sorted list: reading after a write or an erasure, and the canonical form that both
keep. -/

namespace Sys2Proof.Machine

/-- Below every listed position nothing is read. -/
theorem Table.read_below (t : Table) (p : Nat) (h : ∀ a ∈ t, p < a.1) : Table.read t p = none := by
  induction t with
  | nil => rfl
  | cons x t ih =>
    have hx := h x (by simp)
    simp only [Table.read]
    rw [if_neg (by omega)]
    exact ih fun a ha => h a (by simp [ha])

/-- What is read at a position after a write. -/
theorem Table.read_write (t : Table) (p q : Nat) (r : Record) :
    Table.read (Table.write t p r) q = if q = p then some r else Table.read t q := by
  induction t with
  | nil => simp [Table.write, Table.read, eq_comm]
  | cons x t ih =>
    simp only [Table.write]
    split
    · simp only [Table.read, eq_comm]
    · split
      · subst p; simp only [Table.read]; split <;> simp_all [eq_comm]
      · rename_i hp hq
        simp only [Table.read, ih]
        by_cases hx : x.1 = q
        · rw [if_pos hx, if_pos hx, if_neg]; omega
        · rw [if_neg hx, if_neg hx]

/-- What is read at a position after another has been emptied, of a table in canonical form. -/
theorem Table.read_erase (t : Table) (p q : Nat) (h : t.wf) :
    Table.read (Table.erase t p) q = if q = p then none else Table.read t q := by
  induction t with
  | nil => simp [Table.erase, Table.read]
  | cons x t ih =>
    have hpw := List.pairwise_cons.1 h.1
    have ht : Table.wf t := ⟨hpw.2, fun a ha => h.2 a (by simp [ha])⟩
    simp only [Table.erase]
    split
    · rename_i hp
      by_cases hq : q = p
      · subst hq; simp only [if_true]
        exact Table.read_below t q fun a ha => by have := hpw.1 a ha; omega
      · simp only [Table.read, if_neg hq]; rw [if_neg (by omega)]
    · simp only [Table.read, ih ht]; split <;> simp_all

/-- The entries a write can leave: those there before, and the one written. -/
theorem Table.mem_write {t : Table} {p : Nat} {r : Record} {a : Nat × Record} (h : a ∈ Table.write t p r) :
    a = (p, r) ∨ a ∈ t := by
  induction t with
  | nil => simpa [Table.write] using h
  | cons x t ih =>
    simp only [Table.write] at h
    split at h
    · simpa using h
    · split at h
      · simp only [List.mem_cons] at h ⊢; tauto
      · simp only [List.mem_cons] at h ⊢
        rcases h with h | h
        · exact .inr (.inl h)
        · rcases ih h with h | h
          · exact .inl h
          · exact .inr (.inr h)

/-- The entries an erasure can leave. -/
theorem Table.mem_erase {t : Table} {p : Nat} {a : Nat × Record} (h : a ∈ Table.erase t p) : a ∈ t := by
  induction t with
  | nil => simp [Table.erase] at h
  | cons x t ih =>
    simp only [Table.erase] at h
    split at h
    · exact List.mem_cons_of_mem _ h
    · simp only [List.mem_cons] at h ⊢; exact h.imp id ih

/-- A write to a position of the table keeps the canonical form. -/
theorem Table.write_wf (t : Table) (p : Nat) (r : Record) (h : t.wf) (hp : p < Config.buckets * Config.slots) :
    (Table.write t p r).wf := by
  refine ⟨?_, fun a ha => ?_⟩
  · induction t with
    | nil => simp [Table.write]
    | cons x t ih =>
      have hpw := List.pairwise_cons.1 h.1
      have ht : Table.wf t := ⟨hpw.2, fun a ha => h.2 a (by simp [ha])⟩
      simp only [Table.write]
      split
      · refine List.pairwise_cons.2 ⟨fun a ha => ?_, h.1⟩
        rcases List.mem_cons.1 ha with rfl | ha
        · assumption
        · have := hpw.1 a ha; simp only; omega
      · split
        · subst p; exact List.pairwise_cons.2 ⟨hpw.1, hpw.2⟩
        · refine List.pairwise_cons.2 ⟨fun a ha => ?_, ih ht⟩
          rcases Table.mem_write ha with rfl | ha
          · simp only; omega
          · exact hpw.1 a ha
  · rcases Table.mem_write ha with rfl | ha
    · exact hp
    · exact h.2 a ha

/-- An erasure keeps the canonical form. -/
theorem Table.erase_wf (t : Table) (p : Nat) (h : t.wf) : (Table.erase t p).wf := by
  refine ⟨?_, fun a ha => h.2 a (Table.mem_erase ha)⟩
  induction t with
  | nil => simp [Table.erase]
  | cons x t ih =>
    have hpw := List.pairwise_cons.1 h.1
    have ht : Table.wf t := ⟨hpw.2, fun a ha => h.2 a (by simp [ha])⟩
    simp only [Table.erase]
    split
    · exact hpw.2
    · exact List.pairwise_cons.2 ⟨fun a ha => hpw.1 a (Table.mem_erase ha), ih ht⟩

/-- In a table in canonical form, an entry is listed exactly when it is read. -/
theorem Table.read_eq_some_iff (t : Table) (h : t.wf) (p : Nat) (r : Record) :
    Table.read t p = some r ↔ (p, r) ∈ t := by
  induction t with
  | nil => simp [Table.read]
  | cons x t ih =>
    obtain ⟨q, x⟩ := x
    have hpw := List.pairwise_cons.1 h.1
    have ht : Table.wf t := ⟨hpw.2, fun a ha => h.2 a (by simp [ha])⟩
    simp only [Table.read, List.mem_cons, Prod.mk.injEq]
    split
    · rename_i hq
      subst hq
      constructor
      · intro e; exact .inl ⟨rfl, by simpa using e.symm⟩
      · rintro (⟨-, rfl⟩ | hm)
        · rfl
        · have := hpw.1 _ hm; simp at this
    · rename_i hq
      rw [ih ht]
      constructor
      · exact .inr
      · rintro (⟨rfl, -⟩ | hm)
        · exact absurd rfl hq
        · exact hm

/-- The positions of a bucket are the eight from its first. -/
theorem mem_bucketSlots (b p : Nat) : p ∈ bucketSlots b ↔ b * 8 ≤ p ∧ p < b * 8 + 8 := by
  simp only [bucketSlots, Config.slots, List.mem_map, List.mem_range]
  constructor
  · rintro ⟨a, ha, rfl⟩; omega
  · intro h; exact ⟨p - b * 8, by omega, by omega⟩

/-- A lookup that finds answers a slot of the key's bucket that holds a record with that key (R17). -/
theorem Table.lookup_some {t : Table} {size : Nat} {k : Key} {p : Nat} (h : t.lookup size k = some p) :
    (k.bucket size * 8 ≤ p ∧ p < k.bucket size * 8 + 8) ∧ ∃ r, t.read p = some r ∧ r.key = k := by
  unfold Table.lookup at h
  have hm := List.mem_of_find?_eq_some h
  have hp := List.find?_some h
  refine ⟨(mem_bucketSlots _ _).1 hm, ?_⟩
  cases hr : t.read p with
  | none => simp [hr] at hp
  | some r => exact ⟨r, rfl, by simpa [hr] using hp⟩

/-- A lookup that does not find: no slot of the key's bucket holds that key (R17). -/
theorem Table.lookup_none {t : Table} {size : Nat} {k : Key} (h : t.lookup size k = none) {p : Nat}
    (hp : k.bucket size * 8 ≤ p ∧ p < k.bucket size * 8 + 8) {r : Record} (hr : t.read p = some r) :
    r.key ≠ k := by
  unfold Table.lookup at h
  have := List.find?_eq_none.1 h p ((mem_bucketSlots _ _).2 hp)
  simpa [hr] using this

/-- The slot an insertion takes is an empty one of the key's bucket (R17). -/
theorem Table.vacant_some {t : Table} {size : Nat} {k : Key} {p : Nat} (h : t.vacant size k = some p) :
    (k.bucket size * 8 ≤ p ∧ p < k.bucket size * 8 + 8) ∧ t.read p = none := by
  unfold Table.vacant at h
  have hm := List.mem_of_find?_eq_some h
  have hp := List.find?_some h
  exact ⟨(mem_bucketSlots _ _).1 hm, by simpa using hp⟩

/-- Every position of a bucket is a position of the table. -/
theorem bucket_position_lt (k : Key) (size p : Nat) (h : p < k.bucket size * 8 + 8) :
    p < Config.buckets * Config.slots := by
  have : k.bucket size < Config.buckets := Nat.mod_lt _ (by decide)
  simp only [Config.buckets, Config.slots] at *
  omega

end Sys2Proof.Machine
end

