-- ==== Sys2Proof/Tests/Slice0.lean ====
section
/-! SUPPORT. The model's own tests: figures worked out in spec/ or by hand from it, single steps on small states, and
for every statement with hypotheses a state that meets them. -/

namespace Sys2Proof.Tests

open Sys2Proof Sys2Proof.Machine

/-! ### Well-formedness -/

theorem test_short_cell_refused : (Instr.ringCellReceived (List.replicate 63 0)).wellFormed = false := by decide
theorem test_long_cell_refused : (Instr.ringCellReceived (List.replicate 65 0)).wellFormed = false := by decide
theorem test_empty_poll_answer_refused : (Instr.poll (.answered [])).wellFormed = false := by decide
theorem test_long_fetch_answer_refused : (Instr.fetch (.answered (List.replicate 16 0))).wellFormed = false := by decide
theorem test_empty_delivery_answer_refused : (Instr.delivery (.answered [])).wellFormed = false := by decide
theorem test_whole_cell_well_formed : (Instr.ringCellReceived (List.replicate 64 0)).wellFormed = true := by decide

/-- The opcode table gives its rows no bits, so no word spells a command. -/
theorem test_no_word_spells_a_command : decodeTableWord 8 1 = none := rfl

/-! ### Figures of the spec -/

set_option maxRecDepth 10000 in
/-- The CRC-16 of the ASCII digits 1 to 9 (section 11.2). -/
theorem test_crc : crc16 [0x31, 0x32, 0x33, 0x34, 0x35, 0x36, 0x37, 0x38, 0x39] = 0x29B1 := by decide

/-- The acknowledgement's check byte, by hand: 06H and FAH sum to 256 (section 11.3). -/
theorem test_acknowledgement : isAcknowledgement [0x06, 0xFA] = true := by decide

/-- The barcode 40217733951 and its key (R3, R4). -/
theorem test_barcode_valid :
    formKey 0x01 11 [0x40, 0x21, 0x77, 0x33, 0x95, 0x1F, 0, 0, 0, 0] = some ⟨0x01, 11, 40217733951⟩ := by decide

/-- A wrong check digit is a misread (R3). -/
theorem test_barcode_wrong_check_digit :
    formKey 0x01 11 [0x40, 0x21, 0x77, 0x33, 0x95, 0x9F, 0, 0, 0, 0] = none := by decide

/-- A pad nibble of 10 to 14 is a misread (R2). -/
theorem test_barcode_bad_pad :
    formKey 0x01 11 [0x40, 0x21, 0x77, 0x33, 0x95, 0x1A, 0, 0, 0, 0] = none := by decide

/-- Leading zeros count in the length, not in the value (R4). -/
theorem test_barcode_leading_zeros :
    formKey 0x01 9 [0x00, 0x01, 0x23, 0x45, 0x1F, 0, 0, 0, 0, 0] = some ⟨0x01, 9, 123451⟩ := by decide
theorem test_barcode_six_zeros :
    formKey 0x01 6 [0x00, 0x00, 0x00, 0, 0, 0, 0, 0, 0, 0] = some ⟨0x01, 6, 0⟩ := by decide

/-- The card of R5's example. -/
theorem test_card : formKey 0x02 4 [4, 162, 63, 145, 9, 9, 9, 9, 9, 9] = some ⟨0x02, 4, 77741969⟩ := by decide
theorem test_card_length_ten : formKey 0x02 10 (List.replicate 10 0) = none := by decide

/-- The homes and buckets of section 1.6. -/
theorem test_home_and_bucket_six :
    (Key.home ⟨0x01, 11, 40217733951⟩ 6, Key.bucket ⟨0x01, 11, 40217733951⟩ 6) = (3, 7306) := by decide
theorem test_home_and_bucket_eight :
    (Key.home ⟨0x01, 11, 40217733951⟩ 8, Key.bucket ⟨0x01, 11, 40217733951⟩ 8) = (7, 7527) := by decide
theorem test_home_and_bucket_card :
    (Key.home ⟨0x02, 4, 77741969⟩ 6, Key.bucket ⟨0x02, 4, 77741969⟩ 6) = (5, 5442) := by decide

/-- Whole minutes rounded up, 255 at most (R45). -/
theorem test_minutes : (minutesUp 1, minutesUp 60, minutesUp 61, minutesUp 15360) = (1, 1, 2, 255) := by decide

/-- Every verdict is read back from its code, and 00H and 10H name none (section 11.4, R177). -/
theorem test_verdict_codes :
    ([Verdict.unknown, .void, .wrongLane, .wrongZone, .tooEarly, .tooLate, .inProgress, .alreadyIn, .noReentry,
      .cooldown, .homeBusy, .admitFresh, .admitReentry, .exitUnmatched, .exitOk].all fun v =>
        Verdict.ofCode v.code == some v) = true ∧ Verdict.ofCode 0x00 = none ∧ Verdict.ofCode 0x10 = none := by
  decide

/-- READ_GATE's data takes 53 bytes, a zone's 8, a lane's first disposition 18 (chapter 11). -/
theorem test_readout_lengths :
    (ReplyData.gate State.reset.gateReadout).bytes.length = 53 ∧ (ReplyData.zone .zero).bytes.length = 8 ∧
      (lastBytes none).length = 18 := by decide

/-- A MGMT payload with command code 05H and a key is a VOID_KEY (section 10.1, section 11.4). -/
theorem test_void_key_cell :
    mgmtOf 15 ([0x05, 0x2A, 0x02, 4, 0, 0, 0, 0, 4, 162, 63, 145] ++ List.replicate 44 0) =
      ⟨15, 0x2A, .voidKey ⟨0x02, 4, 77741969⟩⟩ := by decide

/-- A SET_LANE cell, by hand: an EXIT lane of zone 7, classes 0 and 15, HIGH, windows 30, 0 and 10, PROVISIONAL (section
11.2). -/
theorem test_set_lane_cell :
    mgmtOf 15 ([0x09, 0x2A, 3, 1, 1, 7, 0x80, 0x01, 1, 30, 0, 10, 1] ++ List.replicate 43 0xFF) =
      ⟨15, 0x2A, .setLane 3 1 1 7 0x8001 1 30 0 10 1⟩ := by decide

/-- A PUT_RECORD cell, by hand: 123451 is 01E23BH, and the two high bits of open and close are spare (chapter 11, the
record image). -/
theorem test_put_record_cell :
    mgmtOf 15
        ([0x01, 0x2A, 0x01, 6, 0, 0, 0, 0, 0, 0x01, 0xE2, 0x3B, 0x3A, 0x05, 9, 0xC5, 0xA0, 0x4B, 0x40] ++
          List.replicate 37 0) =
      ⟨15, 0x2A, .putRecord ⟨⟨0x01, 6, 123451⟩, ⟨3, 0x05, 1440, 2880, 10, 9⟩⟩⟩ := by decide

/-- The delivery of SEE_STAFF without a key to lane 3, by hand: 3 + 3 + 10H + EAH sum to 256 (section 11.3). -/
theorem test_delivery_cell :
    deliveryCell 3 ⟨.seeStaff, 0, none⟩ = [3, 3, 0x10, 0] ++ List.replicate 11 0 ++ [0xEA] := by decide

/-- The TON line rests low when silent (R103). -/
theorem test_tone_line_rests_low : State.reset.tonHigh 3 0 = false := by decide

/-- The poll cell of lane 3, by hand: 3 + 1 + FCH sum to 256 (section 11.3). -/
theorem test_poll_cell : pollCell 3 = [0x03, 0x01, 0xFC] := by decide

/-! ### States the tests start from -/

/-- The state a step answers. -/
def next : Host.Outcome State Fault Refusal → State
  | .next s => s
  | .fault _ => State.reset
  | .refused _ => State.reset

/-- A part alone on its ring whose sweep is over. -/
def ready : State := { State.reset with adt := { State.reset.adt with phase := .ready } }

/-- Part 1 of a ring of four, the ring UP. -/
def ringed (s : State) : State := { s with grp := { s.grp with position := 1, size := 4, ringUp := true } }

def clocked (s : State) (t : Nat) : State := { s with mgu := { s.mgu with clock := some t } }

/-- One management cell waits. -/
def commanded (s : State) (c : Command) : State := { s with mgu := { s.mgu with queue := [⟨15, 7, c⟩] } }

def key : Key := ⟨0x01, 6, 123451⟩
def otherKey : Key := ⟨0x01, 6, 8192⟩
def image : Image := ⟨key, ⟨3, 0x01, 0, 1440, 2, 10⟩⟩
def record : Record := image.inserted

theorem image_fits : image.fits := ⟨⟨by decide, by decide⟩, by decide, by decide, by decide, by decide, by decide⟩

/-- The record of `key` in slot 0 of its bucket, 571 on a ring of one. -/
def filed (r : Record) : State := { ready with adt := { ready.adt with table := [(4568, r)], fill := 1 } }

/-- The bucket of `key` with other records in its first slots. -/
def crowded (slots : Nat) : State :=
  { ready with
    adt :=
      { ready.adt with
        table := (List.range slots).map fun i => (4568 + i, { record with key := ⟨0x01, 6, 8763 + 8192 * i⟩ }) } }

def tag : Tag := ⟨0, 3, 9⟩
def hold : Hold := ⟨tag, 4568, .entry, .fresh, 5000⟩

/-- The record of `key` held by hold 0. -/
def held : State := (filed { record with hold := some 0 }).setHold 0 (some hold)

/-- Every entry of the hold table taken. -/
def holdsFull (s : State) : State := { s with hdu := { s.hdu with holds := Vector.replicate 64 (some hold) } }

def queued (s : State) (e : Intake) : State := { s with hdu := { s.hdu with intake := [e] } }

def presentation : Presentation := ⟨0x01, 6, [0x12, 0x34, 0x51, 0, 0, 0, 0, 0, 0, 0], 0⟩

/-- Lane 3 as some function leaves it, with one event waiting. -/
def laneWith (s : State) (f : Lane → Lane) (e : LaneEvent) : State :=
  s.modLane 3 fun ln => { f ln with events := [e] }

/-! ### Single steps -/

/-- PUT_RECORD inserts into slot 0 of bucket 571 and answers NEW (R17, R23). -/
theorem test_put_record :
    (next (exec .putRecord (commanded ready (.putRecord image)))).adt.table = [(4568, record)] := by decide

/-- A key whose home is another part is refused WRONG_HOME and changes nothing (R22). -/
theorem test_put_record_wrong_home :
    (next (exec .putRecord (commanded (ringed ready) (.putRecord image)))).adt.table = [] := by decide

set_option maxRecDepth 10000 in
/-- A fresh record in its window is granted, the first hold taken, the verdict handed to this part's tracker (R44, R51). -/
theorem test_claim_granted :
    (next (exec .claim (queued (filed record) (.claim tag key .entry 60 0 0xFFFF)))).clt.inbox =
      [⟨none, tag, key, some .admitFresh, 0⟩] := by decide

set_option maxRecDepth 10000 in
/-- The same claim on a lane whose class set leaves class 3 out (R44). -/
theorem test_claim_wrong_lane :
    (next (exec .claim (queued (filed record) (.claim tag key .entry 60 0 0xFFF7)))).clt.inbox =
      [⟨none, tag, key, some .wrongLane, 0⟩] := by decide

set_option maxRecDepth 10000 in
/-- A PASSED commits the hold: the record is INSIDE and free (R53). -/
theorem test_passed_commits :
    (next (exec .passed (queued held (.passed tag key .entry 70)))).adt.table =
      [(4568, { record with uses := ⟨.inside, 0, 0⟩ })] := by decide

/-- A presentation in IDLE on an EXIT lane makes the claim VALIDATING waits for (R79, R125). -/
theorem test_presentation_claims :
    (next (exec (.presentation 3)
      (laneWith (clocked ready 60)
        (fun ln => { ln with state := .idle, openIntent := true, config := { ln.config with direction := .exit } })
        (.presentation presentation)))).hdu.intake =
      [.claim ⟨0, 3, 0⟩ key .exit 60 0 0xFFFF] := by decide

/-- A rotation in CLOSED is forced (R88). -/
theorem test_rotation_forced :
    ((next (exec (.rotation 3) (laneWith ready id (.rotation false)))).lane 3).counters.forced = 1 := by decide

/-- The emergency event frees the arm of a CLOSED lane (R106). -/
theorem test_emergency_frees_the_arm :
    ((next (exec (.emergencyEvent 3) (laneWith ready id .emergency))).line 3).arm = .free := by decide

/-- Three misses in a row lose the link (R114). -/
theorem test_third_miss :
    ((next (exec .miss
      { ready.modHead 3 fun h => { h with missed := 2 } with
        lbp := { (ready.modHead 3 fun h => { h with missed := 2 }).lbp with underWay := some (.poll 3) } })).lane
      3).events = [.linkLoss] := by decide

/-- The first poll after a reset is of lane 0 (R112). -/
theorem test_first_poll : (next (exec (.poll .begun) State.reset)).lbp.underWay = some (.poll 0) := by decide

/-- The clock stays at its last second (R167). -/
theorem test_clock_stays :
    (next (exec .clockSecond (clocked ready 1048575))).mgu.clock = some 1048575 := by decide

/-- An IDLE cell goes out while both queues are empty (R149). -/
theorem test_idle_cell_goes_out : ((next (exec .outputCellEnd ready)).grp.sending.take 4) = [15, 0, 0, 15] := by decide

/-! ### Every statement with hypotheses has a state that meets them

The clauses of a statement that ask more have their own conjuncts, at the ends of their ranges. -/

/-- The hypotheses of the statements about a management command. -/
def Given (s : State) (c : Command) : Prop := s.able ∧ s.headCommand ⟨15, 7, c⟩ []

theorem given_ready (c : Command) : Given (commanded ready c) c := ⟨⟨rfl, Nat.zero_lt_one⟩, rfl⟩
theorem given_reset (c : Command) : Given (commanded State.reset c) c :=
  ⟨⟨rfl, Nat.zero_lt_one⟩, rfl⟩
theorem given_ringed (c : Command) : Given (commanded (ringed ready) c) c :=
  ⟨⟨rfl, (by decide : 1 < 4)⟩, rfl⟩

theorem filed_filedAt (r : Record) (h : r.key = key) : (filed r).filedAt key 4568 r := by
  refine ⟨rfl, h, (by decide : 4568 / 8 = key.bucket 1), fun q x hq _ _ => ?_⟩
  simp only [State.recordAt, filed, Table.read] at hq
  split at hq
  · exact Eq.symm ‹_›
  · cases hq

theorem ready_notFiled (k : Key) : ready.notFiled k := by
  intro q x hq
  simp [State.recordAt, ready, State.reset, Table.read] at hq

theorem ready_noneOverdue (e : Intake) : (queued ready e).noneOverdue := by
  intro i h hi
  have : ∀ i, (queued ready e).holdAt i = none := fun i => by
    show (Vector.replicate 64 none)[i] = none
    simp
  rw [this] at hi
  cases hi

theorem witness_HeldInResetNothingActs :
    ({ State.reset with inReset := true } : State).inReset = true ∧ (∀ pins, Instr.claim ≠ .powerOn pins) ∧
      Instr.claim ≠ .rstnLow := ⟨rfl, (fun _ h => nomatch h), by decide⟩

theorem witness_GateClearIsPowerOnWithReply :
    (commanded ready .gateClear).live ∧ (commanded ready .gateClear).headCommand ⟨15, 7, .gateClear⟩ [] := ⟨rfl, rfl⟩

theorem witness_SweepCompleteEmptiesTable :
    (State.reset.live ∧ State.reset.adt.phase = .sweeping) ∧ ready.live ∧ ready.adt.phase = .ready :=
  ⟨⟨rfl, rfl⟩, rfl, rfl⟩

theorem witness_RecordImageTests :
    (∀ im : Image, Given (commanded State.reset (.putRecord im)) (.putRecord im)) ∧
      (∀ im : Image, Given (commanded ready (.putRecord im)) (.putRecord im) ∧
        (commanded ready (.putRecord im)).adt.phase = .ready) ∧
      ((⟨0x01, 5, 12345⟩ : Key).formed = false ∧ (⟨0x01, 20, 1⟩ : Key).formed = false ∧
        (⟨0x01, 6, 1000000⟩ : Key).formed = false ∧ (⟨0x02, 7, 2 ^ 56⟩ : Key).formed = false ∧
        (⟨0x03, 6, 1⟩ : Key).formed = false) ∧
      (image.key.formed = true ∧ image.static.zones ≠ 0 ∧ image.static.openMinute < image.static.closeMinute ∧
        image.key.value % (ringed ready).grp.size ≠ (ringed ready).grp.position) :=
  ⟨fun _ => given_reset _, fun _ => ⟨given_ready _, rfl⟩, by decide, by decide⟩

theorem crowded_notFiled (n : Nat) (h : n ≤ 8) : (crowded n).notFiled key := by
  intro q x hq hb hk
  have hb' : q / 8 = 571 := hb.trans (by decide : key.bucket 1 = 571)
  have : 4568 ≤ q ∧ q ≤ 4575 := by omega
  obtain ⟨h1, h2⟩ := this
  interval_cases n <;> interval_cases q <;>
    simp [State.recordAt, crowded, ready, List.range, List.range.loop, Table.read] at hq <;> subst hq <;>
    simp [key] at hk

theorem witness_PutRecordUpserts :
    (image.key.formed = true ∧ image.static.zones ≠ 0 ∧ image.static.openMinute < image.static.closeMinute ∧
      image.key.value % ready.grp.size = ready.grp.position) ∧
    (filed record).filedAt image.key 4568 record ∧
    ((crowded 0).notFiled key ∧ 4568 / 8 = key.value / (crowded 0).grp.size % 8192 ∧
      (crowded 0).recordAt 4568 = none) ∧
    ((crowded 7).notFiled key ∧ 4575 / 8 = key.value / (crowded 7).grp.size % 8192 ∧
      (crowded 7).recordAt 4575 = none ∧
      ∀ q, q < 4575 → q / 8 = key.value / (crowded 7).grp.size % 8192 → (crowded 7).recordAt q ≠ none) ∧
    ((crowded 8).notFiled key ∧
      ∀ p, p / 8 = key.value / (crowded 8).grp.size % 8192 → (crowded 8).recordAt p ≠ none) := by
  refine ⟨by decide, filed_filedAt _ rfl, ⟨crowded_notFiled 0 (by decide), by decide, by decide⟩,
    ⟨crowded_notFiled 7 (by decide), by decide, by decide, fun q hq hb => ?_⟩,
    crowded_notFiled 8 (by decide), fun q hb => ?_⟩
  · have hb' : q / 8 = 571 := hb
    have : 4568 ≤ q := by omega
    interval_cases q <;> decide
  · have hb' : q / 8 = 571 := hb
    have : 4568 ≤ q ∧ q ≤ 4575 := by omega
    obtain ⟨h1, h2⟩ := this
    interval_cases q <;> decide

theorem witness_KeyCommandTests :
    (∀ c : Command, Given (commanded State.reset c) c) ∧ (∀ c : Command, Given (commanded ready c) c) ∧
      (∀ c : Command, Given (commanded (ringed ready) c) c) ∧ (⟨0x02, 5, 1⟩ : Key).formed = false ∧
      (key.formed = true ∧ key.value % (ringed ready).grp.size ≠ (ringed ready).grp.position ∧
        key.value % ready.grp.size = ready.grp.position) ∧ (commanded ready (.voidKey key)).notFiled key :=
  ⟨given_reset, given_ready, given_ringed, by decide, by decide, ready_notFiled _⟩

theorem witness_KeyCommandsOnFoundRecord :
    (∀ c : Command, Given (commanded (filed record) c) c) ∧ record.hold = none ∧
      (filed record).filedAt key 4568 record ∧
      (filed { record with hold := some 63 }).filedAt key 4568 { record with hold := some 63 } :=
  ⟨fun _ => ⟨⟨rfl, Nat.zero_lt_one⟩, rfl⟩, rfl, filed_filedAt _ rfl, filed_filedAt _ rfl⟩

/-- A stream with some records to go is open. -/
def streaming (remaining : Nat) (c : Command) : State :=
  { commanded ready c with adt := { ready.adt with stream := some ⟨remaining, 0, 0, 0, none⟩ } }

theorem given_streaming (n : Nat) (c : Command) :
    Given (streaming n c) c ∧ (streaming n c).adt.phase = .ready ∧
      (streaming n c).adt.stream = some ⟨n, 0, 0, 0, none⟩ ∧ (streaming n c).mgu.firstLoaded = none :=
  ⟨⟨⟨rfl, Nat.zero_lt_one⟩, rfl⟩, rfl, rfl, rfl⟩

theorem witness_LoadOpenOpensStream (count : Nat) :
    Given (commanded State.reset (.loadOpen count)) (.loadOpen count) ∧
      Given (streaming 1 (.loadOpen count)) (.loadOpen count) ∧
      Given (commanded ready (.loadOpen count)) (.loadOpen count) :=
  ⟨given_reset _, (given_streaming _ _).1, given_ready _⟩

theorem witness_LoadRecordsRefusals (count : Nat) :
    let c : Command := .loadRecords count image image
    Given (commanded State.reset c) c ∧ Given (commanded ready c) c ∧ Given (streaming 1 c) c :=
  ⟨given_reset _, given_ready _, (given_streaming _ _).1⟩

/-- A stream with the first record of the cell at hand taken. -/
def halfLoaded (remaining : Nat) (c : Command) : State :=
  { streaming remaining c with mgu := { (streaming remaining c).mgu with firstLoaded := some .ok } }

/-- Of the remaining counts its clauses ask for, 0, 1, 2 and 3 are the ends. -/
theorem witness_LoadRecordsTaken (count remaining : Nat) :
    let c : Command := .loadRecords count image image
    (Given (streaming remaining c) c ∧ (streaming remaining c).adt.stream = some ⟨remaining, 0, 0, 0, none⟩ ∧
      (streaming remaining c).mgu.firstLoaded = none) ∧
    Given (halfLoaded remaining c) c ∧ (halfLoaded remaining c).adt.stream = some ⟨remaining, 0, 0, 0, none⟩ ∧
      (halfLoaded remaining c).mgu.firstLoaded = some .ok :=
  ⟨⟨(given_streaming remaining _).1, rfl, rfl⟩, (given_streaming remaining _).1, rfl, rfl⟩

/-- Both of its cases: records remaining, and none. -/
theorem witness_LoadAccessesAgree (remaining : Nat) :
    let c : Command := .loadRecords 2 image image
    Given (streaming remaining c) c ∧ (streaming remaining c).adt.stream = some ⟨remaining, 0, 0, 0, none⟩ ∧
      (streaming remaining c).mgu.firstLoaded = none :=
  ⟨(given_streaming _ _).1, rfl, rfl⟩

theorem witness_LoadAbortClosesStream :
    Given (commanded State.reset .loadAbort) .loadAbort ∧ Given (commanded ready .loadAbort) .loadAbort ∧
      Given (streaming 1 .loadAbort) .loadAbort :=
  ⟨given_reset _, given_ready _, (given_streaming _ _).1⟩

/-- A part in STRAP_FAULT: position and size both 1 (R155). -/
def strapped : State := { ready with grp := { ready.grp with position := 1 } }

/-- A lane at which nothing waits gives a command its turn. -/
theorem turnOf_nil {s : State} {l : LaneNo} (h : (s.lane l).events = []) : s.turnOf l := by
  intro e he
  rw [h] at he
  cases he

/-- Lane 3 IDLE with some events that wait, and a command for it. -/
def asked (events : List LaneEvent) (c : Command) : State :=
  commanded (ready.modLane 3 fun ln => { ln with state := .idle, events := events }) c

/-- A waiting cancel is taken before a LANE_RELEASE that reaches the lane behind it (R72). -/
theorem test_lane_release_waits_for_cancel :
    exec .laneRelease (asked [.cancel] (.laneRelease 3)) = .next (asked [.cancel] (.laneRelease 3)) := rfl

/-- A waiting rotation is taken before a LANE_RESET that reaches the lane behind it (R72). -/
theorem test_lane_reset_waits_for_rotation :
    exec .laneReset (asked [.rotation true] (.laneReset 3)) = .next (asked [.rotation true] (.laneReset 3)) := rfl

/-- A LANE_CLOSE overtakes a presentation that waits (R74, R118). -/
theorem test_lane_close_overtakes_presentation :
    ((next (exec .laneClose (asked [.presentation presentation] (.laneClose 3)))).lane 3).state = .closed := by decide

theorem witness_StatusBeforeTheCommandsOwn :
    (∀ c, Given (asked [.presentation presentation, .cancel] c) c ∧
      ∃ e ∈ ((asked [.presentation presentation, .cancel] c).lane 3).events, e.isPresentation = false) ∧
      (Command.readLane 3 false).laneNamed = some (3 : LaneNo).val ∧
    (commanded strapped .emergencyClear).live ∧ strapped.grp.size ≤ strapped.grp.position ∧
      (∀ c : Command, (commanded strapped c).headCommand ⟨15, 7, c⟩ []) ∧
      (∀ code, Command.emergencyClear ≠ .unknown code) ∧ (∀ clear, Command.emergencyClear ≠ .readGate clear) ∧
      Command.emergencyClear ≠ .gateClear ∧
      (∀ pins access, Command.row pins access .emergencyClear ≠ Command.row pins access .gateClear) ∧
      ready.mgu.queue = [] :=
  ⟨fun _ => ⟨⟨⟨rfl, Nat.zero_lt_one⟩, rfl⟩, .cancel, .tail _ (.head _), rfl⟩, rfl, rfl, Nat.le_refl _, fun _ => rfl,
    (fun _ h => nomatch h), (fun _ h => nomatch h), by decide, (fun _ _ h => nomatch h), rfl⟩

theorem witness_ClockIsSetAndCounts :
    (∀ second, Given (commanded ready (.setClock second)) (.setClock second)) ∧
      (ready.live ∧ ready.mgu.clock = none) ∧
      ∀ v, (clocked ready v).live ∧ (clocked ready v).mgu.clock = some v :=
  ⟨fun _ => given_ready _, ⟨rfl, rfl⟩, fun _ => ⟨rfl, rfl⟩⟩

theorem witness_ClockNeverFallsOtherwise :
    exec .clockSecond (clocked ready 1048575) = .next (next (exec .clockSecond (clocked ready 1048575))) ∧
      (clocked ready 1048575).mgu.clock = some 1048575 ∧ Instr.clockSecond ≠ .setClock ∧
      (∀ pins, Instr.clockSecond ≠ .powerOn pins) ∧ ∀ pins, Instr.clockSecond ≠ .gateClear pins :=
  ⟨rfl, rfl, by decide, (fun _ h => nomatch h), fun _ h => nomatch h⟩

/-- Each clause but that of the mask names a range of the values carried. -/
theorem witness_SetGateStoresSettings (timeout limit : Nat) (mask : Byte) :
    Given (commanded ready (.setGate timeout limit mask)) (.setGate timeout limit mask) := given_ready _

theorem witness_ReadGateReturnsAndClears (clear : Bool) :
    (commanded strapped (.readGate clear)).live ∧
      (commanded strapped (.readGate clear)).headCommand ⟨15, 7, .readGate clear⟩ [] := ⟨rfl, rfl⟩

/-- EMERGENCY_CLEAR waits while the input and the latch are as given. -/
def latched (input latch : Bool) : State :=
  { commanded ready .emergencyClear with tlu := { ready.tlu with inputActive := input, latched := latch } }

theorem witness_EmergencyClearCases (input latch : Bool) :
    Given (latched input latch) .emergencyClear ∧ (latched input latch).tlu.inputActive = input ∧
      (latched input latch).tlu.latched = latch :=
  ⟨⟨⟨rfl, Nat.zero_lt_one⟩, rfl⟩, rfl, rfl⟩

theorem witness_ZoneCommands (c : Command) :
    ((commanded strapped c).live ∧ (commanded strapped c).headCommand ⟨15, 7, c⟩ [] ∧
        (commanded strapped c).grp.size ≤ (commanded strapped c).grp.position) ∧
      Given (commanded ready c) c ∧ 7 < 8 ∧ 7 = (7 : ZoneNo).val ∧ 0 = (0 : ZoneNo).val :=
  ⟨⟨rfl, rfl, Nat.le_refl _⟩, given_ready _, by decide, rfl, rfl⟩

/-- A request of lane 3 waits behind one of lane 15. -/
def requested (ask : ZoneAsk) : State :=
  { ready with zcu := { ready.zcu with requests := [⟨15, 0, .exit⟩, ⟨3, 7, ask⟩] } }

theorem witness_ZoneRequestsTaken (ask : ZoneAsk) :
    (requested ask).live ∧
      (requested ask).zcu.requests = [⟨15, 0, .exit⟩] ++ (⟨3, 7, ask⟩ : ZoneRequest) :: [] ∧
      ∀ x ∈ [(⟨15, 0, .exit⟩ : ZoneRequest)], x.lane ≠ 3 := ⟨rfl, rfl, by decide⟩

/-- Lane 3 in a state, with nothing waiting. -/
def inState (s : State) (st : LaneState) : State := s.modLane 3 fun ln => { ln with state := st }

/-- Lane 3 in AWAIT_PASS with a passage. -/
def passing (s : State) (p : Passage) : State :=
  s.modLane 3 fun ln => { ln with state := .awaitPass, passage := some p, current := some ⟨key, 60⟩ }

def logged (st : LogState) : LogRecord := ⟨key, .entry, 3, 60, st⟩
def tracked (mode : Mode) (deadline : Option Nat) : TrackerEntry := ⟨9, key, .entry, 0, 60, mode, deadline⟩

theorem witness_WorkInFlightEnds :
    (((inState ready .validating).setPlace 3 (some (tracked .atHome none))).lane 3).state = .validating ∧
      (((inState ready .validating).setPlace 3 (some (tracked .atHome none))).place 3).isSome = true ∧
      ((inState ready .validating).lane 3).state = .validating ∧ (inState ready .validating).place 3 = none ∧
      (∀ p, ((passing ready p).lane 3).state = .awaitPass ∧ ((passing ready p).lane 3).passage = some p ∧
        ((passing ready p).lane 3).current = some ⟨key, 60⟩) ∧
      ((inState ready .released).lane 3).state ≠ .validating ∧ ((inState ready .released).lane 3).state ≠ .awaitPass ∧
      (∀ x ∈ [logged .done], x.lane ≠ 3 ∨ x.state ≠ .pending) ∧ (logged .pending).lane = 3 ∧
      (logged .pending).state = .pending :=
  ⟨by decide, by decide, by decide, by decide, fun _ => ⟨rfl, rfl, rfl⟩, by decide, by decide, by decide, rfl, rfl⟩

/-- Each range at its end: lane 15 and zone 7 are the last, and a code of 1 the highest. -/
theorem witness_SetLaneConfigures (fitted : Byte) :
    let c : Command := .setLane 15 fitted 1 7 0xFFFF 1 31 6 0 1
    let bare := ready.modLane 15 fun ln => { ln with config := { ln.config with fitted := false } }
    Given (commanded ready c) c ∧ (∀ l : LaneNo, 15 = l.val → (commanded ready c).turnOf l) ∧
      (∀ l : LaneNo, 15 = l.val → (commanded bare c).turnOf l) ∧
      15 = (15 : LaneNo).val ∧ 7 = (7 : ZoneNo).val ∧ (1 : Byte).toNat ≤ 1 ∧
      1 < (2 : Byte).toNat ∧ ((commanded ready c).lane 15).state = .closed ∧
      ((commanded ready c).lane 15).config.fitted = true ∧
      (Given (commanded bare c) c ∧ ((commanded bare c).lane 15).state = .closed ∧
        ((commanded bare c).lane 15).config.fitted = false) ∧
      ((inState ready .idle).lane 3).state ≠ .closed ∧ (2 : Byte) ≠ 0 ∧ (2 : Byte) ≠ 1 := by
  have last : ∀ l : LaneNo, 15 = l.val → l = 15 := by decide
  exact ⟨given_ready _, fun l h => by rw [last l h]; exact turnOf_nil rfl,
    fun l h => by rw [last l h]; exact turnOf_nil rfl, rfl, rfl, by decide, by decide, rfl, rfl,
    ⟨⟨⟨rfl, Nat.zero_lt_one⟩, rfl⟩, rfl, rfl⟩, by decide⟩

theorem witness_LaneOpenAndClose (c : Command) :
    Given (commanded ready c) c ∧ (commanded ready c).turnOf 15 ∧ 15 < 16 ∧
      (let bare := commanded (ready.modLane 15 fun ln => { ln with config := { ln.config with fitted := false } }) c
       Given bare c ∧ bare.turnOf 15 ∧ (bare.lane 15).config.fitted = false) ∧
      ((commanded ready c).lane 15).config.fitted = true ∧ (commanded ready c).mgu.clock = none ∧
      (let s := commanded (clocked ready 0) c
       Given s c ∧ s.turnOf 15 ∧ s.mgu.clock ≠ none ∧ (s.lane 15).state = .closed) ∧
      (let s := commanded (clocked (inState ready .idle) 0) c
       Given s c ∧ s.turnOf 3 ∧ s.mgu.clock ≠ none ∧ (s.lane 3).state ≠ .closed ∧ (s.lane 3).state = .idle) :=
  ⟨given_ready _, turnOf_nil rfl, by decide, ⟨⟨⟨rfl, Nat.zero_lt_one⟩, rfl⟩, turnOf_nil rfl, rfl⟩, rfl, rfl,
    ⟨⟨⟨rfl, Nat.zero_lt_one⟩, rfl⟩, turnOf_nil rfl, (fun h => nomatch h), rfl⟩,
    ⟨⟨rfl, Nat.zero_lt_one⟩, rfl⟩, turnOf_nil rfl, (fun h => nomatch h), (fun h => nomatch h), rfl⟩

theorem witness_LaneResetCloses (n : Nat) (st : LaneState) :
    Given (commanded (inState ready st) (.laneReset n)) (.laneReset n) ∧ 15 < 16 ∧
      (commanded (inState ready st) (.laneReset n)).turnOf 3 ∧
      ((commanded (inState ready st) (.laneReset n)).lane 3).state = st :=
  ⟨⟨⟨rfl, Nat.zero_lt_one⟩, rfl⟩, by decide, turnOf_nil rfl, rfl⟩

/-- Lane 3 IDLE with a direction, its zone with one reserved place and a quota. -/
def releasing (direction : Kind) (quota : Nat) (events : List LaneEvent) : State :=
  commanded
    ((ready.modLane 3 fun ln =>
      { ln with state := .idle, config := { ln.config with direction := direction }, events := events }).modZone 0
        fun z => { z with quota := quota, reserved := 1 })
    (.laneRelease 3)

theorem witness_LaneReleaseBeginsManualPassage :
    (∀ d q es, Given (releasing d q es) (.laneRelease 3) ∧ ((releasing d q es).lane 3).state = .idle ∧
      ((releasing d q es).lane 3).config.direction = d ∧ ((releasing d q es).lane 3).events = es) ∧
      ((inState ready .closed).lane 3).state ≠ .idle ∧
      (∀ d q, (releasing d q []).turnOf 3) ∧ (∀ d q, (releasing d q [.presentation presentation]).turnOf 3) ∧
      (let z := ((releasing .entry 2 []).commandsLeft [] |>.serveZoneAll 3).zone 0
       z.count + z.reserved < z.quota) ∧
      (let z := ((releasing .entry 1 []).commandsLeft [] |>.serveZoneAll 3).zone 0
       z.quota ≤ z.count + z.reserved) :=
  ⟨fun _ _ _ => ⟨⟨⟨rfl, Nat.zero_lt_one⟩, rfl⟩, rfl, rfl, rfl⟩, by decide, fun _ _ => turnOf_nil rfl,
    fun _ _ e he => by cases List.mem_singleton.mp he; rfl, by decide, by decide⟩

theorem witness_ReadLaneReturnsAndClears (n : Nat) (clear : Bool) :
    Given (commanded ready (.readLane n clear)) (.readLane n clear) ∧
      (commanded ready (.readLane n clear)).turnOf 3 ∧ 15 < 16 := ⟨given_ready _, turnOf_nil rfl, by decide⟩

/-- A local transmit queue with some general cells and some of the other kinds. -/
def sending (general other : Nat) : State :=
  { ready with
    grp :=
      { ready.grp with
        localQueue :=
          List.replicate general ⟨15, .timed (.ringDown 0) none⟩ ++
            List.replicate other ⟨1, .intake (.abandon tag key)⟩ } }

def waitingIntake (n : Nat) : State :=
  { ready with hdu := { ready.hdu with intake := List.replicate n (.abandon tag key) } }

theorem witness_QueuesShareTheirPlaces :
    (let general (x : LocalCell) : Bool := !([0x02, 0x03, 0x04] : List Byte).contains x.body.type
     let report : LocalCell := ⟨15, .timed (.ringDown 0) none⟩
     let claim : LocalCell := ⟨1, .intake (.claim tag key .entry 60 0 0)⟩
     general report = true ∧ report.body.type ≠ 0x01 ∧ report.body.type ≠ 0x05 ∧ claim.body.type = 0x01 ∧
       (sending 23 8).grp.localQueue.length = 31 ∧
       ((sending 23 8).grp.localQueue.filter general).length = 23 ∧
       (sending 24 0).grp.localQueue.length = 24 ∧
       ((sending 24 0).grp.localQueue.filter general).length = 24 ∧
       (sending 24 8).grp.localQueue.length = 32) ∧
      ((waitingIntake 31).hdu.intake.length = 31 ∧ (waitingIntake 32).hdu.intake.length = 32 ∧
        (waitingIntake 47).hdu.intake.length = 47 ∧ (waitingIntake 48).hdu.intake.length = 48 ∧
        (⟨0, 3, 9⟩ : Tag).part = ready.grp.position ∧ (⟨15, 3, 9⟩ : Tag).part ≠ ready.grp.position ∧
        (Intake.abandon tag key).isClaim = false) ∧
      (Report.forced 3 .idle none).code = 0x02 ∧ (⟨true, false, true⟩ : Mask).forced = false := by decide

/-- A cell of 64 bytes with its check, from its 62 bytes. -/
theorem cell_checked (body : List Byte) (h : body.length = 62) :
    (body ++ crcBytes body).length = 64 ∧
      (body ++ crcBytes body).drop 62 = crcBytes ((body ++ crcBytes body).take 62) := by
  constructor
  · simp [h, crcBytes, beBytes]
  · rw [List.drop_append_of_le_length (by omega), List.take_append_of_le_length (by omega), ← h, List.drop_length,
      List.take_length, List.nil_append]

/-- The 62 bytes of a cell with a destination, a source, a type and a hop count. -/
def headed (destination source type hops : Byte) : List Byte :=
  [destination, source, type, hops] ++ List.replicate 58 0

set_option maxRecDepth 20000 in
theorem witness_RingCellCases :
    (List.replicate 63 (0 : Byte)).length ≠ 64 ∧ ready.live ∧ (List.replicate 64 (0xFF : Byte)).length = 64 ∧
      (∀ d s t h, (headed d s t h).length = 62) ∧
      ((headed 0 1 0 15).getD 2 0 = 0x00 ∧ ((headed 0 1 2 15).getD 0 0).toNat % 16 = ready.grp.position ∧
        (headed 0 1 2 15).getD 2 0 = 0x02 ∧ (headed 0 15 6 15).getD 2 0 = 0x06 ∧
        intakeOf 0x03 (List.replicate 56 0) =
          some (.passed ⟨0, 0, 0⟩ ⟨0, 0, 0⟩ (.ofByte 0) 0) ∧
        intakeOf 0x08 (List.replicate 56 0) = none ∧
        ((headed 1 0 1 15).getD 1 0).toNat % 16 = ready.grp.position ∧
        ((headed 1 2 1 0).getD 0 0).toNat % 16 ≠ ready.grp.position ∧
        ((headed 1 2 1 0).getD 1 0).toNat % 16 ≠ ready.grp.position ∧
        ((headed 1 2 1 0).getD 3 0).toNat % 16 = 0 ∧ 0 < ((headed 1 2 1 1).getD 3 0).toNat % 16) ∧
      ∀ n, ({ ready with grp := { ready.grp with transit := List.replicate n [] } } : State).grp.transit.length = n :=
  ⟨by decide, rfl, by decide, fun _ _ _ _ => rfl, by decide, fun n => List.length_replicate ..⟩

set_option maxRecDepth 100000 in
/-- A cell of 64 bytes whose check is wrong. -/
theorem witness_RingCellCases_bad_check :
    ¬(List.replicate 64 (0xFF : Byte)).drop 62 = crcBytes ((List.replicate 64 (0xFF : Byte)).take 62) := by decide

theorem witness_RingDownTimeout :
    (ready.live ∧ ready.grp.ringUp = false) ∧ (ringed ready).live ∧ (ringed ready).grp.ringUp = true :=
  ⟨⟨rfl, rfl⟩, rfl, rfl⟩

theorem witness_OutputArbiter :
    ready.live ∧ ready.grp.transit = [] ∧ ready.grp.localQueue = [] ∧ ready.grp.prefer = .transit ∧
      (sending 0 1).live ∧ (sending 0 1).grp.localQueue = ⟨1, .intake (.abandon tag key)⟩ :: [] ∧
      (sending 0 1).grp.transit = [] := ⟨rfl, rfl, rfl, rfl, rfl, rfl, rfl⟩

theorem witness_RingCellRoundTrip :
    15 < 16 ∧ (Intake.claim ⟨255, 255, 255⟩ ⟨0xFF, 255, 2 ^ 64 - 1⟩ .exit 1048575 255 0xFFFF).fits ∧
      (Intake.lateUse 255 255 ⟨0xFF, 255, 2 ^ 64 - 1⟩ .exit 1048575).fits ∧
      (⟨255, 255, 255⟩ : Tag).fits ∧ (⟨0xFF, 255, 2 ^ 64 - 1⟩ : Key).fits ∧ 255 < 256 ∧
      (headed 1 2 1 1 ++ [0, 0]).length = 64 ∧ 0 < cellHops (headed 1 2 1 1 ++ [0, 0]) := by
  refine ⟨by decide, ?_, ?_, ?_, ?_, by decide, rfl, by decide⟩ <;>
    simp [Intake.fits, Tag.fits, Key.fits]

/-- Every entry of the hold table taken, under another tag. -/
theorem holdsFull_holdAt (s : State) (i : HoldNo) : (holdsFull s).holdAt i = some hold := by
  show (Vector.replicate 64 (some hold))[i] = some hold
  simp

/-- The state of `held`, its one hold seen by its number. -/
theorem held_holdAt (i : HoldNo) : held.holdAt i = if i = 0 then some hold else none := by
  show (((Vector.replicate 64 none).set 0 (some hold)) : Vector (Option Hold) 64)[i.val] = _
  rw [Vector.getElem_set]
  by_cases h : i = 0
  · simp [h]
  · rw [if_neg (fun e => h (Fin.ext e.symm)), if_neg h]
    simp

theorem held_noneOverdue (e : Intake) : (queued held e).noneOverdue := by
  intro i h hi
  have : held.holdAt i = some h := hi
  rw [held_holdAt] at this
  split at this
  · cases this
    show 0 < 5000
    decide
  · cases this

theorem held_filedAt : held.filedAt key 4568 { record with hold := some 0 } :=
  filed_filedAt { record with hold := some 0 } rfl

def claim (t : Tag) : Intake := .claim t key .entry 60 0 0xFFFF

theorem witness_ClaimDecided :
    (∀ s, s = ready ∨ s = State.reset →
      (queued s (claim tag)).live ∧ (queued s (claim tag)).hdu.intake = claim tag :: [] ∧
        ∀ i h, (queued s (claim tag)).holdAt i = some h → h.tag ≠ tag) ∧
      (queued ready (claim tag)).noneOverdue ∧ (queued ready (claim tag)).notFiled key ∧
      (queued (filed record) (claim tag)).filedAt key 4568 record ∧
      ((∀ i, (holdsFull (queued (filed record) (claim ⟨1, 3, 9⟩))).holdAt i ≠ none) ∧
        ∀ i h, (holdsFull (queued (filed record) (claim ⟨1, 3, 9⟩))).holdAt i = some h → h.tag ≠ ⟨1, 3, 9⟩) ∧
      ((filed record).holdAt 0 = none ∧ ∀ j : HoldNo, j < 0 → (filed record).holdAt j ≠ none) ∧
      (claimVerdict (some record) ⟨.entry, 60, 0, 0xFFFF⟩ true).1 = .admitFresh ∧
      (claimVerdict (some record) ⟨.entry, 86400, 0, 0xFFFF⟩ true).1 = .tooLate ∧
      ((queued held (claim tag)).holdAt 0 = some hold ∧ hold.tag = tag ∧
        (∀ j g, (queued held (claim tag)).holdAt j = some g → g.tag = tag → j = 0) ∧
        (queued held (claim tag)).recordAt hold.position = some { record with hold := some 0 }) := by
  refine ⟨?_, ready_noneOverdue _, ready_notFiled _, filed_filedAt _ rfl, ⟨?_, ?_⟩, ⟨rfl, ?_⟩, by decide, by decide,
    rfl, rfl, ?_, rfl⟩
  · rintro s (rfl | rfl) <;> refine ⟨rfl, rfl, fun i h hi => ?_⟩ <;>
    · change (Vector.replicate 64 (none : Option Hold))[i] = some h at hi
      simp at hi
  · intro i
    rw [holdsFull_holdAt]
    simp
  · intro i h hi
    rw [holdsFull_holdAt] at hi
    cases hi
    decide
  · intro j hj
    exact absurd hj (Fin.not_lt_zero j)
  · intro j g hg _
    change held.holdAt j = some g at hg
    rw [held_holdAt] at hg
    split at hg
    · assumption
    · cases hg

theorem witness_NoticesEndHolds :
    (∀ e, (queued held e).live ∧ (queued held e).noneOverdue ∧ (queued held e).hdu.intake = e :: [] ∧
      (queued held e).holdAt 0 = some hold ∧
      (∀ j g, (queued held e).holdAt j = some g → g.tag = tag → j = 0) ∧
      (queued held e).recordAt hold.position = some { record with hold := some 0 }) ∧
      hold.tag = tag ∧ ({ record with hold := some 0 } : Record).key = key ∧
      ∀ e i h, (queued held e).holdAt i = some h → h.tag = tag → ∀ r, (queued held e).recordAt h.position = some r →
        r.key ≠ otherKey := by
  refine ⟨fun e => ⟨rfl, held_noneOverdue e, rfl, rfl, fun j g hg _ => ?_, rfl⟩, rfl, rfl, fun e i h hi _ r hr => ?_⟩
  · change held.holdAt j = some g at hg
    rw [held_holdAt] at hg
    split at hg
    · assumption
    · cases hg
  · change held.holdAt i = some h at hi
    rw [held_holdAt] at hi
    split at hi
    · cases hi
      cases hr
      decide
    · cases hi

theorem witness_UsesApplied :
    let passed : Intake := .passed ⟨1, 3, 9⟩ key .entry 70
    let late : Intake := .lateUse 1 15 key .exit 70
    (∀ e, (queued ready e).live ∧ (queued ready e).noneOverdue ∧ (queued ready e).hdu.intake = e :: [] ∧
      (queued ready e).notFiled key) ∧
      (queued State.reset late).adt.phase = .sweeping ∧
      ((queued (filed record) passed).filedAt key 4568 record ∧ record.hold = none) ∧
      ((queued held late).live ∧ (queued held late).noneOverdue ∧
        (queued held late).filedAt key 4568 { record with hold := some 0 } ∧
        (queued held late).holdAt 0 = some hold) ∧
      ∀ i h, (queued held passed).holdAt i = some h → h.tag = ⟨1, 3, 9⟩ →
        ∀ r, (queued held passed).recordAt h.position = some r → r.key ≠ key := by
  refine ⟨fun e => ⟨rfl, ready_noneOverdue e, rfl, ready_notFiled _⟩, rfl, ⟨filed_filedAt _ rfl, rfl⟩,
    ⟨rfl, held_noneOverdue _, held_filedAt, rfl⟩, fun i h hi ht => ?_⟩
  change held.holdAt i = some h at hi
  rw [held_holdAt] at hi
  split at hi
  · cases hi
    exact absurd ht (by decide)
  · cases hi

theorem witness_OverdueHoldsLapseFirst :
    let s := { queued held (.abandon tag key) with timebase := 5000 }
    s.live ∧ s.holdAt 0 = some hold ∧ s.recordAt hold.position = some { record with hold := some 0 } ∧
      hold.deadline ≤ s.timebase ∧ (∀ j g, j < (0 : HoldNo) → s.holdAt j = some g → s.timebase < g.deadline) ∧
      s.hdu.intake = .abandon tag key :: [] ∧ ready.holdAt 63 = none :=
  ⟨rfl, rfl, rfl, Nat.le_refl _, fun j _ hj => absurd hj (Fin.not_lt_zero j), rfl, rfl⟩

/-- A verdict waits at the Claim Tracker. -/
def answered (s : State) (v : HandedVerdict) : State := { s with clt := { s.clt with inbox := [v] } }

def outstanding (mode : Mode) (deadline : Option Nat) : State :=
  (inState ready .validating).setPlace 3 (some (tracked mode deadline))

theorem ready_place (l : LaneNo) (v : HandedVerdict) : (answered ready v).place l = none := by
  show (Vector.replicate 16 none)[l] = none
  simp

theorem witness_VerdictAnswersClaim :
    (∀ v, (answered ready v).live ∧ (answered ready v).clt.inbox = v :: [] ∧
      ∀ l e, (answered ready v).place l ≠ some e) ∧
      (let v : HandedVerdict := ⟨none, tag, key, some .admitFresh, 0⟩
       let s := answered (outstanding .atHome none) v
       s.live ∧ s.clt.inbox = v :: [] ∧ s.place 3 = some (tracked .atHome none) ∧
         v.tag = ⟨s.grp.position, (3 : LaneNo), (tracked .atHome none).seq⟩ ∧ v.key = (tracked .atHome none).key) ∧
      (let v : HandedVerdict := ⟨some 0, tag, key, some .exitOk, 255⟩
       let s := answered (outstanding .remote (some 600)) v
       s.live ∧ s.place 3 = some (tracked .remote (some 600)) ∧ v.source = some (tracked .remote (some 600)).home) ∧
      (⟨0, 3, 9⟩ : Tag).part = ready.grp.position ∧ (⟨1, 3, 9⟩ : Tag).part ≠ ready.grp.position := by
  refine ⟨fun v => ⟨rfl, rfl, fun l e h => ?_⟩, ⟨rfl, rfl, rfl, rfl, rfl⟩, ⟨rfl, rfl, rfl⟩, rfl, by decide⟩
  rw [ready_place] at h
  cases h

/-- A REMOTE claim of lane 3 is outstanding, under a policy, the log holding some records. -/
def expiring (policy : Policy) (log : List LogRecord) : State :=
  let s := (outstanding .remote (some 600)).modLane 3 fun ln => { ln with config := { ln.config with policy := policy } }
  { s with clt := { s.clt with log := log } }

theorem witness_UnreachableClaims :
    (∀ p log, (expiring p log).live ∧ (expiring p log).place 3 = some (tracked .remote (some 600)) ∧
      (tracked .remote (some 600)).deadline = some 600 ∧ ((expiring p log).lane 3).config.policy = p ∧
      (expiring p log).clt.log = log) ∧
      ready.place 3 = none ∧ (outstanding .remote none).place 3 = some (tracked .remote none) ∧
      (∃ x ∈ [logged .done], x.kind = .entry ∧ x.key = (tracked .remote (some 600)).key) ∧
      (∀ n, ¬∃ x ∈ List.replicate n (⟨otherKey, .exit, 3, 60, .done⟩ : LogRecord),
        x.kind = .entry ∧ x.key = (tracked .remote (some 600)).key) ∧
      ∀ n, (List.replicate n (logged .done)).length = n := by
  refine ⟨fun _ _ => ⟨rfl, rfl, rfl, rfl, rfl⟩, rfl, rfl, ⟨_, List.mem_singleton_self _, rfl, rfl⟩, ?_,
    fun _ => List.length_replicate ..⟩
  rintro n ⟨x, hx, hk, _⟩
  rw [List.eq_of_mem_replicate hx] at hk
  cases hk

theorem witness_LogDrainsAndReturns :
    (∀ r, let s : State := { ringed ready with clt := { ready.clt with log := [r] } }
      s.live ∧ s.clt.log = r :: [] ∧ s.grp.ringUp = true ∧ s.grp.localQueue.length < 32 ∧
        (s.grp.localQueue.filter fun x => x.body.general).length < 24) ∧
      (ready.live ∧ ready.clt.log = [] ∧ ready.grp.ringUp = false) ∧
      ((logged .done).state = .done ∧ (logged .pending).state = .pending ∧
        key.value % (ringed ready).grp.size ≠ (ringed ready).grp.position ∧
        otherKey.value % ready.grp.size = ready.grp.position) ∧
      (tag.lane = (3 : LaneNo).val ∧ (outstanding .remote (some 600)).place 3 = some (tracked .remote (some 600)) ∧
        (tracked .remote (some 600)).seq = tag.seq ∧ (tracked .remote (some 600)).key = key ∧ key ≠ otherKey) ∧
      ∀ n, (List.replicate n (logged .done)).length = n :=
  ⟨fun _ => ⟨rfl, rfl, rfl, (by decide : 0 < 32), (by decide : 0 < 24)⟩, ⟨rfl, rfl, rfl⟩,
    ⟨rfl, rfl, by decide, by decide⟩, ⟨rfl, rfl, rfl, rfl, by decide⟩,
    fun _ => List.length_replicate ..⟩

/-- Lane 3's head has a disposition waiting and room, or cells offered. -/
def bus (s : State) (h : Head) (afterPoll : Bool) : State :=
  let t := s.modHead 3 fun _ => h
  { t with lbp := { t.lbp with afterPoll := afterPoll } }

def disposition : Disposition := ⟨.seeStaff, 0, none⟩
def offering : Head := ⟨true, 0, 1, 0, false, none⟩

theorem witness_BusTransactionsBegin :
    (ready.live ∧ ready.lbp.underWay = none ∧ ready.lbp.afterPoll = false ∧ (∀ l, (ready.lane l).config.fitted = true) ∧
      (∀ l, (ready.head l).waiting = none) ∧ ready.lbp.round = []) ∧
      ((List.finRange 16).filter fun l => (ready.lane l).config.fitted) = 0 :: (List.finRange 16).tail ∧
      (let s := bus ready ⟨true, 0, 0, 1, false, some disposition⟩ false
       s.lbp.underWay = none ∧ (s.lane 3).config.fitted = true ∧ (s.head 3).waiting = some disposition ∧
         0 < (s.head 3).room ∧ ∀ m : LaneNo, m < 3 → (s.head m).waiting = none) ∧
      (let s := bus ready offering true
       s.lbp.underWay = none ∧ s.lbp.afterPoll = true ∧ (∀ l, (s.head l).waiting = none) ∧
         (∀ m, 0 < (s.head m).offered ↔ m = 3) ∧ (s.head 3).inHand = false ∧ (s.lane 3).state = .closed ∧
         (s.lane 3).config.priority = .normal ∧ ∀ m, (s.lane m).config.priority ≠ .high) ∧
      (let s := (bus ready offering true).modLane 3 fun ln => { ln with config := { ln.config with priority := .high } }
       (s.lane 3).config.priority = .high ∧ ∀ m, 0 < (s.head m).offered → m = 3) ∧
      let s : State := { ready with lanes := Vector.replicate 16 { Lane.reset with config := { LaneConfig.reset with
        fitted := false } } }
      (∀ l, (s.lane l).config.fitted ≠ true) ∧ s.lbp.underWay = none :=
  ⟨⟨rfl, rfl, rfl, by decide, by decide, rfl⟩, by decide, by decide, by decide, by decide, by decide⟩

theorem witness_BusAnswers :
    (∀ t, let s : State := { ready with lbp := { ready.lbp with underWay := some t } }
      s.live ∧ s.lbp.underWay = some t ∧ (s.lane 3).config.fitted = true ∧ (s.head 3).linked = true) ∧
      (ready.live ∧ ready.lbp.underWay = none) ∧
      (let sum (bytes : List Byte) : Byte := bytes.foldl (· + ·) 0
       sum [2, 2, 0xFC] = 0 ∧ sum [2, 2, 0xFD] ≠ 0 ∧
         sum (0x01 :: 0x02 :: 4 :: [4, 162, 63, 145, 0, 0, 0, 0, 0, 0] ++ [0, 0x83]) = 0 ∧
         ([4, 162, 63, 145, 0, 0, 0, 0, 0, 0] : List Byte).length = 10 ∧ sum [0x06, 0xFA] = 0 ∧
         ([0x06, 0xFA] : List Byte) ≠ [0x00, 0x00] ∧ ([0x06, 0xFA] : List Byte).length ≠ 15) :=
  ⟨fun _ => ⟨rfl, rfl, rfl, rfl⟩, ⟨rfl, rfl⟩, by decide⟩

/-- A presentation waits at lane 3 in a state, the clock at second 60. -/
def presented (st : LaneState) (p : Presentation) (echo : Option Presented) (direction : Kind) : State :=
  laneWith (clocked ready 60)
    (fun ln => { ln with state := st, echo := echo, config := { ln.config with direction := direction } })
    (.presentation p)

theorem witness_PresentationChecks :
    (∀ st p e d, (presented st p e d).live ∧ ((presented st p e d).lane 3).events = .presentation p :: [] ∧
      ((presented st p e d).lane 3).state = st ∧ (presented st p e d).mgu.clock = some 60 ∧
      ((presented st p e d).lane 3).echo = e ∧ ((presented st p e d).lane 3).config.echoWindow = 2 ∧
      ((presented st p e d).lane 3).config.staleLimit = 3) ∧
      (3 * 10 < 31 ∧ 30 ≤ 3 * 10) ∧ formKey 0x03 6 presentation.payload = none ∧
      formKey presentation.medium presentation.length presentation.payload = some key ∧
      (∀ time, (⟨key, time⟩ : Presented).key = key) ∧ 60 ≤ 60 ∧ 60 ≤ 58 + 2 :=
  ⟨fun _ _ _ _ => ⟨rfl, rfl, rfl, rfl, rfl, rfl, rfl⟩, by decide, by decide, by decide, fun _ => rfl, by decide,
    by decide⟩

theorem witness_ClaimIssued :
    (∀ d, (presented .idle presentation (some ⟨key, 57⟩) d).live ∧
      ((presented .idle presentation (some ⟨key, 57⟩) d).lane 3).events = .presentation presentation :: [] ∧
      ((presented .idle presentation (some ⟨key, 57⟩) d).lane 3).state = .idle ∧
      (presented .idle presentation (some ⟨key, 57⟩) d).mgu.clock = some 60 ∧
      presentation.age ≤ ((presented .idle presentation (some ⟨key, 57⟩) d).lane 3).config.staleLimit * 10 ∧
      (∀ e, ((presented .idle presentation (some ⟨key, 57⟩) d).lane 3).echo = some e → e.time + 2 < 60) ∧
      ((presented .idle presentation (some ⟨key, 57⟩) d).lane 3).config.direction = d) ∧
      formKey presentation.medium presentation.length presentation.payload = some key ∧
      (key.value % ready.grp.size = ready.grp.position ∧
        key.value % (ringed ready).grp.size ≠ (ringed ready).grp.position ∧ (ringed ready).grp.ringUp = true ∧
        (ringed ready).grp.localQueue.length < 32 ∧ ready.grp.ringUp = false) ∧
      (let z := ((presented .idle presentation none .entry).serveZoneAll 3).zone 0
       z.quota ≤ z.count + z.reserved) ∧
      let s := (presented .idle presentation none .entry).modZone 0 fun z => { z with quota := 1 }
      let z := (s.serveZoneAll 3).zone 0
      z.count + z.reserved < z.quota := by
  refine ⟨fun d => ⟨rfl, rfl, rfl, rfl, Nat.zero_le _, fun e h => ?_, rfl⟩, by decide, by decide, by decide, by decide⟩
  cases h
  decide

/-- Lane 3 in a state and a direction, its next event behind a presentation it may overtake or alone. -/
def waiting (st : LaneState) (direction : Kind) (before : List LaneEvent) (e : LaneEvent) : State :=
  (clocked ready 60).modLane 3 fun ln =>
    { ln with
      state := st, events := before ++ [e], current := some ⟨key, 59⟩
      config := { ln.config with direction := direction } }

theorem waiting_nextIs (st : LaneState) (d : Kind) (e : LaneEvent) (h : e.isPresentation = false) :
    (waiting st d [] e).live ∧ (waiting st d [] e).nextIs 3 [] e [] ∧ ((waiting st d [] e).lane 3).state = st ∧
      ((waiting st d [] e).lane 3).config.direction = d ∧ (waiting st d [] e).mgu.clock = some 60 ∧
      ((waiting st d [] e).lane 3).current = some ⟨key, 59⟩ :=
  ⟨rfl, ⟨rfl, (fun _ h => nomatch h), h⟩, rfl, rfl, rfl, rfl⟩

/-- The next event overtakes a presentation that waits before it. -/
theorem witness_nextIs_overtakes :
    (waiting .closed .entry [.presentation presentation] .linkLoss).nextIs 3 [.presentation presentation]
      .linkLoss [] := ⟨rfl, by decide, rfl⟩

theorem witness_ResultsTaken (st : LaneState) (d : Kind) (r : Result) :
    (waiting st d [] (.result r)).live ∧ (waiting st d [] (.result r)).nextIs 3 [] (.result r) [] ∧
      ((waiting st d [] (.result r)).lane 3).state = st ∧
      ((waiting st d [] (.result r)).lane 3).config.direction = d :=
  have h := waiting_nextIs st d (.result r) rfl
  ⟨h.1, h.2.1, h.2.2.1, h.2.2.2.1⟩

theorem witness_RotationsTaken :
    (∀ st d b, (waiting st d [] (.rotation b)).live ∧ (waiting st d [] (.rotation b)).nextIs 3 [] (.rotation b) []) ∧
      (∀ p : Passage, let s := (waiting .awaitPass .entry [] (.rotation true)).modLane 3 fun ln =>
          { ln with passage := some p }
        s.live ∧ s.nextIs 3 [] (.rotation true) [] ∧ (s.lane 3).passage = some p ∧ s.mgu.clock = some 60 ∧
          (s.lane 3).state = .awaitPass ∧ (s.lane 3).current = some ⟨key, 59⟩) ∧
      (∀ x ∈ [logged .done], x.lane ≠ 3 ∨ x.state ≠ .pending) ∧ (logged .pending).lane = 3 ∧
      (logged .pending).state = .pending :=
  ⟨fun st d b => have h := waiting_nextIs st d (.rotation b) rfl; ⟨h.1, h.2.1⟩,
    fun _ => ⟨rfl, ⟨rfl, (fun _ h => nomatch h), rfl⟩, rfl, rfl, rfl, rfl⟩, by decide, rfl, rfl⟩

theorem witness_EventsThatEndWork (st : LaneState) :
    ∀ e ∈ [LaneEvent.passExpiry, .cancel, .linkLoss, .linkRegained, .emergency, .latchClearing],
      (waiting st .entry [] e).live ∧ (waiting st .entry [] e).nextIs 3 [] e [] ∧
        ((waiting st .entry [] e).lane 3).state = st := by
  intro e he
  have h := waiting_nextIs st .entry e (by revert e; decide)
  exact ⟨h.1, h.2.1, h.2.2.1⟩

theorem witness_LineEvents :
    (∀ x : Lines, (ready.modLine 3 fun _ => x).live ∧ (ready.modLine 3 fun _ => x).line 3 = x) ∧
      (∀ i b, let s : State := { ready with tlu := { ready.tlu with inputActive := i, latched := b } }
        s.live ∧ s.tlu.inputActive = i ∧ s.tlu.latched = b) ∧
      ((inState ready .validating).lane 3).state = .validating ∧ (ready.lane 3).state ≠ .validating ∧
      (ready.lane 3).state ≠ .awaitPass :=
  ⟨fun _ => ⟨rfl, rfl⟩, fun _ _ => ⟨rfl, rfl, rfl⟩, rfl, by decide, by decide⟩

theorem witness_LanesIndependent :
    rowLane (.sensorLevelInactive 3) = some 3 ∧
      exec (.sensorLevelInactive 3) ready = .next (next (exec (.sensorLevelInactive 3) ready)) := ⟨rfl, rfl⟩

theorem witness_KeyFormer : presentation.payload.length = 10 ∧ (0x03 : Byte) ≠ 0x01 ∧ (0x03 : Byte) ≠ 0x02 := by
  decide

/-- Every queue full, every counter, head item, setting and clock at its end, a stream whose first cell has had one of
its two records taken, and a claim to be taken. -/
def brim : State :=
  { ready with
    pending := [.claim]
    adt := { ready.adt with stream := some ⟨65535, 0, 1, 0, some (.bucketFull, key)⟩ }
    lanes := Vector.replicate 16 { Lane.reset with counters := ⟨65535, 65535, 65535, 65535, 65535, 65535⟩ }
    lbp := { ready.lbp with heads := Vector.replicate 16 { Head.reset with missed := 2, offered := 2, room := 2 } }
    hdu := ⟨List.replicate 32 (claim tag) ++ List.replicate 16 (.abandon tag key), Vector.replicate 64 none, 65535,
      65535⟩
    clt := { ready.clt with log := List.replicate 256 ⟨key, .exit, 3, 60, .done⟩, lateVerdicts := 65535 }
    grp :=
      { (sending 24 8).grp with
        transit := List.replicate 8 [], position := 7, size := 8
        counters := ⟨65535, 65535, 65535, 65535, 65535, 65535, 65535⟩ }
    mgu :=
      ⟨some 1048575, 0, ⟨2000, 120, ⟨true, true, true⟩⟩, List.replicate 4 ⟨15, 7, .loadRecords 2 image image⟩,
        some .bucketFull, 65535⟩ }

set_option maxRecDepth 20000 in
theorem witness_StepKeepsBounds : brim.Bounded ∧ step brim = .next (next (step brim)) := by
  have queues : brim.QueuesBounded := by
    refine ⟨⟨by decide, by decide, by decide⟩, ⟨?_, ?_, by decide⟩,
      ⟨by decide, by decide, by decide, by decide, by decide⟩, ⟨by decide, ?_, ?_, by decide, by decide, by decide⟩, ?_⟩
    · exact Nat.le_of_eq (List.length_replicate ..)
    · exact List.pairwise_replicate.mpr (Or.inr (by decide))
    · intro c hc
      rw [List.eq_of_mem_replicate hc]
      exact ⟨by decide, image_fits, image_fits⟩
    · intro t h
      cases h
      decide
    · intro i
      revert i
      decide
  refine ⟨⟨queues, ?_, by decide, ?_⟩, rfl⟩
  · intro l
    revert l
    decide
  · intro st h
    cases h
    exact ⟨by decide, rfl, fun x hx => by cases hx; exact Or.inr (Or.inr rfl), fun hx => nomatch hx⟩

/-- A held record, and the notice that ends its hold at the front. -/
def endingHold : State := { queued held (.passed tag key .entry 70) with pending := [.passed] }

set_option maxRecDepth 20000 in
theorem witness_StepKeepsTableAndHolds :
    endingHold.TableSound ∧ step endingHold = .next (next (step endingHold)) := by
  have hold_of : ∀ i h, endingHold.holdAt i = some h → i = 0 ∧ h = hold := by
    intro i h hi
    change held.holdAt i = some h at hi
    rw [held_holdAt] at hi
    split at hi
    · exact ⟨‹_›, (Option.some.inj hi).symm⟩
    · cases hi
  have record_of : ∀ p r, endingHold.recordAt p = some r → p = 4568 ∧ r = { record with hold := some 0 } := by
    intro p r hp
    simp only [State.recordAt, endingHold, queued, held, filed, State.setHold, Table.read] at hp
    split at hp
    · exact ⟨Eq.symm ‹_›, (Option.some.inj hp).symm⟩
    · cases hp
  refine ⟨⟨by decide, fun _ p r hp => ?_, fun _ p q r x hp hq _ => ?_, fun _ => rfl, fun _ p r i hp hi => ?_,
    fun i h hi => ?_, fun i j h g hi hj _ => ?_, fun h => nomatch h⟩, rfl⟩
  · obtain ⟨rfl, rfl⟩ := record_of p r hp
    exact ⟨by decide, by decide, by decide, by decide, by decide, ⟨by decide, fun _ => ⟨rfl, rfl⟩⟩⟩
  · exact (record_of p r hp).1.trans (record_of q x hq).1.symm
  · obtain ⟨rfl, rfl⟩ := record_of p r hp
    cases hi
    exact ⟨hold, rfl, rfl⟩
  · obtain ⟨rfl, rfl⟩ := hold_of i h hi
    exact ⟨⟨_, rfl, rfl⟩, ⟨by decide, fun _ => ⟨rfl, rfl⟩⟩⟩
  · exact (hold_of i h hi).1.trans (hold_of j g hj).1.symm

/-- A granted passage of lane 3 under way: arm free, latch armed, timer running, one place of its zone reserved. -/
def underWay : State :=
  let s := (((clocked ready 60).modZone 0 fun z => { z with quota := 1, reserved := 1 }).modLane 3 fun ln =>
    { ln with openIntent := true, state := .awaitPass, passage := some ⟨.granted, some tag, none⟩, seq := 10
              current := some ⟨key, 60⟩ }).modLine 3 fun x =>
    { x with arm := .free, latch := .captured, passTimer := some 8000, cancelSet := true, indication := .grant }
  { s.modLane 3 fun ln => { ln with events := [.rotation true] } with pending := [.rotation 3] }

theorem witness_StepKeepsLanes : underWay.LanesSound ∧ step underWay = .next (next (step underWay)) := by
  refine ⟨fun l => ?_, rfl⟩
  refine ⟨⟨?_, ?_, ?_, ?_, ?_, ?_, ?_, ?_, ?_, ?_, ?_, ?_⟩, ⟨?_, ?_, ?_, ?_, ?_⟩⟩ <;> revert l <;> decide

theorem witness_StepKeepsReservations : underWay.ZonesSound ∧ step underWay = .next (next (step underWay)) :=
  ⟨⟨by decide, by decide⟩, rfl⟩

/-- A command of every shape of arguments, with the ends of its numbers. -/
theorem witness_ManagementCellsReadBack :
    (1 : Byte) ≠ 0 ∧ (Command.putRecord image).fits ∧ (Command.loadOpen 65535).fits ∧
      (Command.loadRecords 255 image image).fits ∧ (Command.voidKey ⟨0xFF, 255, 2 ^ 64 - 1⟩).fits ∧
      (Command.setLane 255 0 0xFF 0 0xFFFF 0xFF 255 0 255 0xFF).fits ∧ (Command.laneOpen 255).fits ∧
      (Command.setZone 255 65535).fits ∧ (Command.readZone 0 true).fits ∧ (Command.setClock (2 ^ 32 - 1)).fits ∧
      (Command.setGate 65535 255 0xFF).fits ∧ (Command.unknown 0x00).fits ∧ (Command.unknown 0x16).fits ∧
      (Command.unknown 0xFF).fits := by
  refine ⟨by decide, image_fits, by simp [Command.fits], ⟨by simp, image_fits, image_fits⟩, ?_⟩
  norm_num [Command.fits, Key.fits]
  decide

end Sys2Proof.Tests
end

section
/-! SUPPORT. The Key Former (01_credentials_and_keys.md): numbers read digit by digit as sums over the places, the check
digit as a divisibility test, and when each medium forms a key. -/

namespace Sys2Proof.Machine

/-! ### Numbers read from the left -/

/-- Reading `n` digits of a base from the left gives each the weight of its place. -/
theorem foldl_range_eq_sum (base : Nat) (f : Nat → Nat) (n : Nat) :
    ((List.range n).map f).foldl (fun acc d => acc * base + d) 0 =
      ∑ i ∈ Finset.range n, f i * base ^ (n - 1 - i) := by
  induction n with
  | zero => rfl
  | succ n ih =>
    have shift : ∀ i ∈ Finset.range n, f i * base ^ (n - 1 - i) * base = f i * base ^ (n + 1 - 1 - i) := by
      intro i hi
      rw [Finset.mem_range] at hi
      rw [mul_assoc, ← pow_succ, show n - 1 - i + 1 = n + 1 - 1 - i by omega]
    rw [List.range_succ, List.map_append, List.foldl_append, ih, Finset.sum_range_succ,
      ← Finset.sum_congr rfl shift, ← Finset.sum_mul]
    simp

theorem decimal_digitsOf (payload : List Byte) (n : Nat) :
    decimal (digitsOf payload n) = ∑ i ∈ Finset.range n, nibble payload i * 10 ^ (n - 1 - i) :=
  foldl_range_eq_sum 10 (nibble payload) n

theorem take_eq_map_byteAt (bytes : List Byte) (n : Nat) (h : n ≤ bytes.length) :
    bytes.take n = (List.range n).map (byteAt bytes) := by
  refine List.ext_getElem (by simpa using h) fun i hi _ => ?_
  have : i < bytes.length := by rw [List.length_take] at hi; omega
  simp [byteAt, this]

theorem natAt_zero_eq_sum (bytes : List Byte) (n : Nat) (h : n ≤ bytes.length) :
    natAt bytes 0 n = ∑ i ∈ Finset.range n, (byteAt bytes i).toNat * 256 ^ (n - 1 - i) := by
  rw [← foldl_range_eq_sum, natAt, slice, List.drop_zero, take_eq_map_byteAt bytes n h, beNat, List.foldl_map,
    List.foldl_map]

/-! ### The digits and the check digit -/

theorem digitsOf_succ (payload : List Byte) (n : Nat) :
    digitsOf payload (n + 1) = digitsOf payload n ++ [nibble payload n] := by
  simp [digitsOf, List.range_succ]

theorem weightedSum_concat (i : Nat) (digits : List Nat) (d : Nat) :
    weightedSum i (digits ++ [d]) = weightedSum i digits + weight (i + digits.length) * d := by
  induction digits generalizing i with
  | nil => simp [weightedSum]
  | cons x digits ih =>
    rw [List.cons_append, weightedSum, weightedSum, ih, List.length_cons, ← add_assoc, Nat.add_right_comm i 1,
      Nat.add_assoc i]

theorem weightedSum_digitsOf (payload : List Byte) (n : Nat) :
    weightedSum 0 (digitsOf payload n) = ∑ i ∈ Finset.range n, weight i * nibble payload i := by
  induction n with
  | zero => rfl
  | succ n ih =>
    rw [digitsOf_succ, weightedSum_concat, ih, Finset.sum_range_succ]
    simp [digitsOf]

/-- The weights repeat 7, 3, 1 from the left (R3). -/
theorem weight_eq_getD (i : Nat) : weight i = [7, 3, 1].getD (i % 3) 0 := by
  have : i % 3 = 0 ∨ i % 3 = 1 ∨ i % 3 = 2 := by omega
  obtain h | h | h := this <;> simp [weight, h]

/-- A decimal digit is the required one exactly when it makes the weighted sum a multiple of ten (R3). -/
theorem eq_requiredCheck_iff (digits : List Nat) (d : Nat) (h : d < 10) :
    d = requiredCheck digits ↔ (weightedSum 0 digits + d) % 10 = 0 := by
  unfold requiredCheck
  omega

/-! ### What each medium needs -/

theorem barcodeFormed_iff (length : Nat) (payload : List Byte) :
    barcodeFormed length payload = true ↔
      6 ≤ length ∧ length ≤ 19 ∧ (∀ i, i < length → nibble payload i < 10) ∧
        (length % 2 = 1 → nibble payload length < 10 ∨ nibble payload length = 15) := by
  have pad : (length % 2 = 0 ∨ nibble payload length < 10) ∨ nibble payload length = 15 ↔
      (length % 2 = 1 → nibble payload length < 10 ∨ nibble payload length = 15) := by omega
  simp [barcodeFormed, digitsOf, pad, and_assoc]

/-- A well-formed barcode passes the check of R3 exactly when its weighted digits, the last one taken once, add up to a
multiple of ten. -/
theorem getLast_eq_requiredCheck_iff {length : Nat} {payload : List Byte} (h : barcodeFormed length payload = true) :
    (digitsOf payload length).getLast? = some (requiredCheck (digitsOf payload length).dropLast) ↔
      ((∑ i ∈ Finset.range (length - 1), weight i * nibble payload i) + nibble payload (length - 1)) % 10 = 0 := by
  obtain ⟨six_le, -, digits_lt, -⟩ := (barcodeFormed_iff length payload).mp h
  obtain ⟨n, rfl⟩ : ∃ n, length = n + 1 := ⟨length - 1, by omega⟩
  rw [digitsOf_succ, List.getLast?_concat, List.dropLast_concat, Option.some.injEq,
    eq_requiredCheck_iff _ _ (digits_lt n n.lt_succ_self), weightedSum_digitsOf, Nat.add_sub_cancel]

/-- R2, R3 and R4. -/
theorem barcodeKey_eq_some_iff (length : Nat) (payload : List Byte) (k : Key) :
    barcodeKey length payload = some k ↔
      barcodeFormed length payload = true ∧
        ((∑ i ∈ Finset.range (length - 1), weight i * nibble payload i) + nibble payload (length - 1)) % 10 = 0 ∧
        k = ⟨barcodeMedium, length, ∑ i ∈ Finset.range length, nibble payload i * 10 ^ (length - 1 - i)⟩ := by
  unfold barcodeKey
  by_cases formed : barcodeFormed length payload = true
  · simp [formed, getLast_eq_requiredCheck_iff formed, decimal_digitsOf, eq_comm (a := k)]
  · simp [formed]

/-- R5. The bytes the length counts must be there. -/
theorem cardKey_eq_some_iff (length : Nat) (payload : List Byte) (k : Key) (room : 7 ≤ payload.length) :
    cardKey length payload = some k ↔
      (length = 4 ∨ length = 7) ∧
        k = ⟨cardMedium, length, ∑ i ∈ Finset.range length, (byteAt payload i).toNat * 256 ^ (length - 1 - i)⟩ := by
  unfold cardKey
  by_cases fits : length = 4 ∨ length = 7
  · rw [if_pos fits, natAt_zero_eq_sum payload length (by omega), Option.some.injEq]
    simp only [fits, true_and, eq_comm]
  · simp [fits]

theorem formKey_barcode (length : Nat) (payload : List Byte) :
    formKey barcodeMedium length payload = barcodeKey length payload := rfl

theorem formKey_card (length : Nat) (payload : List Byte) :
    formKey cardMedium length payload = cardKey length payload := rfl

/-- R1: a medium code that names neither BARCODE nor CARD is a MISREAD. -/
theorem formKey_of_ne {medium : Byte} (notBarcode : medium ≠ barcodeMedium) (notCard : medium ≠ cardMedium)
    (length : Nat) (payload : List Byte) : formKey medium length payload = none := by
  simp [formKey, notBarcode, notCard]

/-- Settles O59: each medium by the equivalence for its key. -/
theorem keyFormer : Obligations.KeyFormer := by
  refine ⟨fun length payload k ten => ⟨?_, ?_⟩,
    fun _ length payload notBarcode notCard => formKey_of_ne notBarcode notCard length payload⟩
  · have key := barcodeKey_eq_some_iff length payload k
    simp only [barcodeFormed_iff, weight_eq_getD] at key
    exact key
  · exact cardKey_eq_some_iff length payload k (by omega)

end Sys2Proof.Machine
end

section
/-! SUPPORT. The commands of the admission table (02_the_admission_table.md): what a management command at the head of the
queue comes to, the tests of a record image, how a key's record is found, and the statements about the table commands. -/

namespace Sys2Proof.Machine

/-! ### A command taken from the head of the queue -/

/-- An answer sent: the reply to the cell, and the reports behind it (R165, R166). -/
def Answer.sent (a : Answer) (c : MgmtCell) : State := a.reports.foldl State.report (a.state.reply c a.status a.data)

@[simp] theorem State.refuse_sent (s : State) (st : Status) (c : MgmtCell) :
    (s.refuse st).sent c = s.reply c st .nothing := rfl

@[simp] theorem State.accept_sent (s : State) (d : ReplyData) (c : MgmtCell) :
    (s.accept d).sent c = s.reply c .ok d := rfl

theorem whenRunning_of_live {s : State} (live : s.live) (f : State → State) : whenRunning s f = .next (f s) := by
  rw [whenRunning, live]
  rfl

theorem State.able.not_strapFault {s : State} (able : s.able) : s.grp.strapFault = false := by
  simp [Grp.strapFault, able.2]

/-- Outside STRAP_FAULT a command is executed on the part with its cell taken from the queue (R164, R165). -/
theorem State.execute_of_able {s : State} (able : s.able) (c : MgmtCell) (rest : List MgmtCell)
    (run : State → Answer) : s.execute c rest run = (run (s.commandsLeft rest)).sent c := by
  simp only [State.execute, able.not_strapFault]
  rfl

theorem State.headCommand.queue_eq {s : State} {c : MgmtCell} {rest : List MgmtCell} (head : s.headCommand c rest) :
    s.mgu.queue = c :: rest := head

section
variable {s : State} {c : MgmtCell} {rest : List MgmtCell}

theorem exec_putRecord {im : Image} (able : s.able) (head : s.headCommand c rest) (command : c.command = .putRecord im) :
    exec .putRecord s = .next (((s.commandsLeft rest).putRecord im).sent c) := by
  obtain ⟨src, req, _⟩ := c
  subst command
  simp only [exec, execPutRecord, whenRunning_of_live able.1, head.queue_eq, State.execute_of_able able]

theorem exec_loadOpen {count : Nat} (able : s.able) (head : s.headCommand c rest)
    (command : c.command = .loadOpen count) :
    exec .loadOpen s = .next (((s.commandsLeft rest).loadOpen count).sent c) := by
  obtain ⟨src, req, _⟩ := c
  subst command
  simp only [exec, execLoadOpen, whenRunning_of_live able.1, head.queue_eq, State.execute_of_able able]

theorem exec_voidKey {k : Key} (able : s.able) (head : s.headCommand c rest) (command : c.command = .voidKey k) :
    exec .voidKey s = .next (((s.commandsLeft rest).voidKey k).sent c) := by
  obtain ⟨src, req, _⟩ := c
  subst command
  simp only [exec, execVoidKey, whenRunning_of_live able.1, head.queue_eq, State.execute_of_able able]

theorem exec_restoreKey {k : Key} (able : s.able) (head : s.headCommand c rest)
    (command : c.command = .restoreKey k) :
    exec .restoreKey s = .next (((s.commandsLeft rest).restoreKey k).sent c) := by
  obtain ⟨src, req, _⟩ := c
  subst command
  simp only [exec, execRestoreKey, whenRunning_of_live able.1, head.queue_eq, State.execute_of_able able]

theorem exec_dropKey {k : Key} (able : s.able) (head : s.headCommand c rest) (command : c.command = .dropKey k) :
    exec .dropKey s = .next (((s.commandsLeft rest).dropKey k).sent c) := by
  obtain ⟨src, req, _⟩ := c
  subst command
  simp only [exec, execDropKey, whenRunning_of_live able.1, head.queue_eq, State.execute_of_able able]

theorem exec_queryKey {k : Key} (able : s.able) (head : s.headCommand c rest) (command : c.command = .queryKey k) :
    exec .queryKey s = .next (((s.commandsLeft rest).queryKey k).sent c) := by
  obtain ⟨src, req, _⟩ := c
  subst command
  simp only [exec, execQueryKey, whenRunning_of_live able.1, head.queue_eq, State.execute_of_able able]

/-- A refused cell is answered whole, even by a row that would take its first record alone (R35; log entry 13). -/
theorem exec_loadRecords_of_refusal {count : Nat} {first second : Image} {st : Status} (access : LoadAccess)
    (able : s.able) (head : s.headCommand c rest) (command : c.command = .loadRecords count first second)
    (refusal : s.loadRefusal count = some st) :
    exec (.loadRecords access) s = .next (s.replied rest c st .nothing) := by
  have whole : s.loadsFirstAlone access count = false := by simp [State.loadsFirstAlone, refusal]
  have refused : (s.commandsLeft rest).loadRecords count first second = (s.commandsLeft rest).refuse st := by
    have left : (s.commandsLeft rest).loadRefusal count = some st := refusal
    simp only [State.loadRecords, left]
  obtain ⟨src, req, _⟩ := c
  subst command
  simp only [exec, execLoadRecords, whenRunning_of_live able.1, head.queue_eq, State.execute_of_able able, whole,
    refused, State.refuse_sent]
  rfl

end

/-! ### The tests of a record image -/

/-- R7. -/
theorem Key.formed_iff (k : Key) : k.formed = true ↔
    (k.medium = 0x01 ∧ 6 ≤ k.length ∧ k.length ≤ 19 ∧ k.value < 10 ^ k.length) ∨
      (k.medium = 0x02 ∧ (k.length = 4 ∨ k.length = 7) ∧ k.value < 2 ^ (8 * k.length)) := by
  simp [Key.formed, barcodeMedium, cardMedium, and_assoc]

/-- The first three tests of R22 share their status, so their order does not show. -/
theorem Image.fault_eq_badArg {im : Image} (position size : Nat)
    (h : im.key.formed = false ∨ im.static.zones = 0 ∨ im.static.closeMinute ≤ im.static.openMinute) :
    im.fault position size = some .badArg := by
  obtain formed | zones | hours := h
  · simp [Image.fault, formed]
  · simp [Image.fault, zones]
  · simp [Image.fault, hours]

theorem Image.fault_eq_wrongHome {im : Image} {position size : Nat} (formed : im.key.formed = true)
    (zones : im.static.zones ≠ 0) (hours : im.static.openMinute < im.static.closeMinute)
    (home : im.key.value % size ≠ position) : im.fault position size = some .wrongHome := by
  have zones_ne : (im.static.zones == 0) = false := beq_eq_false_iff_ne.mpr zones
  simp only [Image.fault, Key.home, formed, zones_ne, Nat.not_le.mpr hours]
  exact if_pos home

/-- A record that fails a test of R22 leaves the table as it is. -/
theorem Adt.upsert_of_fault (a : Adt) {position size : Nat} {im : Image} {st : Status}
    (fault : im.fault position size = some st) : a.upsert position size im = ⟨a, st, .refused⟩ := by
  simp only [Adt.upsert, fault]

theorem State.putRecord_sweeping {s : State} (im : Image) (sweeping : s.adt.phase = .sweeping) :
    s.putRecord im = ⟨s, .busy, .put .refused, []⟩ := by
  rw [State.putRecord, if_pos sweeping]
  rfl

theorem State.putRecord_of_fault {s : State} {im : Image} {st : Status} (ready : s.adt.phase = .ready)
    (fault : im.fault s.grp.position s.grp.size = some st) : s.putRecord im = ⟨s, st, .put .refused, []⟩ := by
  simp [State.putRecord, ready, Adt.upsert_of_fault s.adt fault]

/-- Settles O13: PUT_RECORD answers the first failing test of R22 and changes nothing. -/
theorem recordImageTests : Obligations.RecordImageTests := by
  refine ⟨Key.formed_iff, fun s c rest im able head command => ?_⟩
  have fails {st : Status} (ready : s.adt.phase = .ready) (fault : im.fault s.grp.position s.grp.size = some st) :
      exec .putRecord s = .next (s.replied rest c st (.put .refused)) := by
    rw [exec_putRecord able head command, State.putRecord_of_fault (s := s.commandsLeft rest) ready fault]
    rfl
  refine ⟨fun sweeping => ?_, fun ready bad => fails ready (Image.fault_eq_badArg _ _ bad),
    fun ready formed zones hours home => fails ready (Image.fault_eq_wrongHome formed zones hours home)⟩
  rw [exec_putRecord able head command, State.putRecord_sweeping (s := s.commandsLeft rest) im sweeping]
  rfl

/-! ### Finding the record of a key -/

/-- A key filed once in its bucket is found where it stands (R17). -/
theorem State.lookup_of_filedAt {s : State} {k : Key} {p : Nat} {r : Record} (h : s.filedAt k p r) :
    s.lookup k = some p := by
  obtain ⟨read, key, bucket, only⟩ := h
  cases found : s.lookup k with
  | none => exact absurd key (Table.lookup_none found (by omega) read)
  | some q =>
    obtain ⟨range, x, readx, keyx⟩ := Table.lookup_some found
    rw [only q x readx keyx (by omega)]

/-- A key no slot of its bucket holds is not found (R17). -/
theorem State.lookup_of_notFiled {s : State} {k : Key} (h : s.notFiled k) : s.lookup k = none := by
  cases found : s.lookup k with
  | none => rfl
  | some q =>
    obtain ⟨range, x, readx, keyx⟩ := Table.lookup_some found
    exact absurd keyx (h q x readx (by omega))

section
variable {s : State} {k : Key} (run : Nat → Record → Answer)

theorem State.onKey_sweeping (sweeping : s.adt.phase = .sweeping) : s.onKey k run = s.refuse .busy := by
  rw [State.onKey, if_pos sweeping]

theorem State.onKey_not_formed (ready : s.adt.phase = .ready) (formed : k.formed = false) :
    s.onKey k run = s.refuse .badArg := by
  simp [State.onKey, ready, formed]

theorem State.onKey_wrongHome (ready : s.adt.phase = .ready) (formed : k.formed = true)
    (home : k.value % s.grp.size ≠ s.grp.position) : s.onKey k run = s.refuse .wrongHome := by
  simp [State.onKey, Key.home, ready, formed, home]

theorem State.onKey_notFiled (ready : s.adt.phase = .ready) (formed : k.formed = true)
    (home : k.value % s.grp.size = s.grp.position) (absent : s.notFiled k) :
    s.onKey k run = s.refuse .notFound := by
  simp [State.onKey, Key.home, ready, formed, home, State.lookup_of_notFiled absent]

theorem State.onKey_filedAt {p : Nat} {r : Record} (ready : s.adt.phase = .ready) (formed : k.formed = true)
    (home : k.value % s.grp.size = s.grp.position) (filed : s.filedAt k p r) : s.onKey k run = run p r := by
  simp [State.onKey, Key.home, ready, formed, home, State.lookup_of_filedAt filed, filed.1]

end

/-- Each of the four key commands is some effect on the record that the tests of R25 find. -/
theorem exec_keyCommand {s : State} {c : MgmtCell} {rest : List MgmtCell} {k : Key} {i : Instr} (able : s.able)
    (head : s.headCommand c rest)
    (row : c.command = .voidKey k ∧ i = .voidKey ∨ c.command = .restoreKey k ∧ i = .restoreKey ∨
      c.command = .dropKey k ∧ i = .dropKey ∨ c.command = .queryKey k ∧ i = .queryKey) :
    ∃ run, exec i s = .next (((s.commandsLeft rest).onKey k run).sent c) := by
  obtain ⟨command, rfl⟩ | ⟨command, rfl⟩ | ⟨command, rfl⟩ | ⟨command, rfl⟩ := row
  · exact ⟨_, exec_voidKey able head command⟩
  · exact ⟨_, exec_restoreKey able head command⟩
  · exact ⟨_, exec_dropKey able head command⟩
  · exact ⟨_, exec_queryKey able head command⟩

/-- Settles O15: the tests are those of `State.onKey`, whatever the command then does. -/
theorem keyCommandTests : Obligations.KeyCommandTests := by
  intro s c rest k i able head row
  obtain ⟨run, exec_eq⟩ := exec_keyCommand able head row
  have refused {st : Status} (h : (s.commandsLeft rest).onKey k run = (s.commandsLeft rest).refuse st) :
      exec i s = .next (s.replied rest c st .nothing) := by
    rw [exec_eq, h, State.refuse_sent, State.replied]
  exact ⟨fun sweeping => refused (State.onKey_sweeping run sweeping),
    fun ready formed => refused (State.onKey_not_formed run ready formed),
    fun ready formed home => refused (State.onKey_wrongHome run ready formed home),
    fun ready formed home absent => refused (State.onKey_notFiled run ready formed home absent)⟩

/-- Settles O16: each command by its effect on the record `State.onKey` finds. -/
theorem keyCommandsOnFoundRecord : Obligations.KeyCommandsOnFoundRecord := by
  intro s c rest k p r able head ready formed home filed
  have found (run : Nat → Record → Answer) : (s.commandsLeft rest).onKey k run = run p r :=
    State.onKey_filedAt run ready formed home filed
  refine ⟨fun command => ?_, fun command => ?_, fun command held => ?_, fun command free => ?_, fun command => ?_⟩
  · rw [exec_voidKey able head command, State.voidKey, found, State.accept_sent]
  · rw [exec_restoreKey able head command, State.restoreKey, found, State.accept_sent]
  · rw [exec_dropKey able head command, State.dropKey, found, if_pos (Option.isSome_iff_ne_none.mpr held),
      State.refuse_sent, State.replied]
  · rw [exec_dropKey able head command, State.dropKey, found, if_neg (by simp [free]), State.accept_sent]
    rfl
  · rw [exec_queryKey able head command, State.queryKey, found, State.accept_sent, State.replied]

/-! ### The load stream -/

theorem State.loadOpen_sweeping {s : State} (count : Nat) (sweeping : s.adt.phase = .sweeping) :
    s.loadOpen count = s.refuse .busy := by
  rw [State.loadOpen, if_pos sweeping]

theorem State.loadOpen_streamOpen {s : State} {st : Stream} (count : Nat) (ready : s.adt.phase = .ready)
    (stream : s.adt.stream = some st) : s.loadOpen count = s.refuse .streamOpen := by
  simp [State.loadOpen, ready, stream]

theorem State.loadOpen_noStream {s : State} (count : Nat) (ready : s.adt.phase = .ready)
    (stream : s.adt.stream = none) :
    s.loadOpen count =
      State.accept { s with adt := { s.adt with stream := some ⟨count + 1, 0, 0, 0, none⟩ } } (.opened (count + 1)) := by
  simp [State.loadOpen, ready, stream]

/-- Settles O17: LOAD_OPEN by the table's phase and the stream it finds. -/
theorem loadOpenOpensStream : Obligations.LoadOpenOpensStream := by
  intro s c rest count able head command
  rw [exec_loadOpen able head command]
  refine ⟨fun sweeping => ?_, fun st ready stream => ?_, fun ready stream => ?_⟩
  · rw [State.loadOpen_sweeping (s := s.commandsLeft rest) count sweeping, State.refuse_sent, State.replied]
  · rw [State.loadOpen_streamOpen (s := s.commandsLeft rest) count ready stream, State.refuse_sent, State.replied]
  · rw [State.loadOpen_noStream (s := s.commandsLeft rest) count ready stream, State.accept_sent]
    rfl

theorem State.loadRefusal_sweeping {s : State} (count : Nat) (sweeping : s.adt.phase = .sweeping) :
    s.loadRefusal count = some .busy := by
  rw [State.loadRefusal, if_pos sweeping]

theorem State.loadRefusal_noStream {s : State} (count : Nat) (ready : s.adt.phase = .ready)
    (stream : s.adt.stream = none) : s.loadRefusal count = some .noStream := by
  simp [State.loadRefusal, ready, stream]

theorem State.loadRefusal_badCount {s : State} {st : Stream} {count : Nat} (ready : s.adt.phase = .ready)
    (stream : s.adt.stream = some st) (bad : count = 0 ∨ 2 < count) : s.loadRefusal count = some .badArg := by
  simp [State.loadRefusal, ready, stream, bad]

/-- Settles O18: the refusals of R35, each by the test that fails first. -/
theorem loadRecordsRefusals : Obligations.LoadRecordsRefusals := by
  intro s c rest count first second access able head command
  have refused {st : Status} (h : s.loadRefusal count = some st) :
      exec (.loadRecords access) s = .next (s.replied rest c st .nothing) :=
    exec_loadRecords_of_refusal access able head command h
  exact ⟨fun sweeping => refused (State.loadRefusal_sweeping count sweeping),
    fun ready stream => refused (State.loadRefusal_noStream count ready stream),
    fun st ready stream bad => refused (State.loadRefusal_badCount ready stream bad)⟩

end Sys2Proof.Machine
end

section
/-! SUPPORT. Home decisions and holds (03_home_decisions_and_holds.md): the verdict tables read row by row, the entry
at the head of the intake queue taken while no hold is overdue, the hold a notice matches, and uses applied. -/

namespace Sys2Proof.Machine

/-! ### The tables of verdicts and outcomes -/

/-- The answer of the first row that applies, of a table whose rows carry their condition. -/
def firstApplying {α : Type} (rows : List (Bool × α)) : Option α := (rows.find? (·.1)).map (·.2)

/-- A chain of tests agrees with a table row by row: on the row at its head, and behind it when that row fails. -/
theorem ite_eq_firstApplying {α : Type} {c : Prop} [Decidable c] {b : Bool} {v w : α} {rows : List (Bool × α)}
    (row : c ↔ b = true) (behind : ¬c → some w = firstApplying rows) :
    some (if c then v else w) = firstApplying ((b, v) :: rows) := by
  by_cases applies : c
  · simp [firstApplying, applies, row.mp applies]
  · have b_false : b = false := Bool.eq_false_iff.mpr fun h => applies (row.mpr h)
    rw [if_neg applies, behind applies]
    simp [firstApplying, b_false]

/-- The last row of a table, which applies whenever it is reached. -/
theorem eq_firstApplying_last {α : Type} {b : Bool} (v : α) (last : b = true) : some v = firstApplying [(b, v)] := by
  simp [firstApplying, last]

/-- R45 and R46 round up to the next whole minute unless the minutes divide exactly. -/
theorem minutesUp_eq (seconds : Nat) :
    minutesUp seconds = min 255 (if seconds % 60 = 0 then seconds / 60 else seconds / 60 + 1) := by
  unfold minutesUp
  split <;> omega

/-- The wait of R46 is the part above 0 of the difference of cooldown and time elapsed. -/
theorem cooldownWait_eq (r : Record) (t : Nat) :
    cooldownWait r t =
      ((r.static.cooldown : Int) * 60 - (if r.uses.lastExit ≤ t then t - r.uses.lastExit else 0 : Nat)).toNat := by
  unfold cooldownWait
  split <;> omega

/-- Settles O42: each table against the model's chain of tests, one row at a time. -/
theorem decisionTables : Obligations.DecisionTables := by
  refine ⟨fun r t zone classes free => ?entry, fun r t zone classes free => ?exit,
    fun t zone classes free => ⟨rfl, rfl⟩, fun reentries lastExit time => ⟨rfl, ?again, rfl, rfl, rfl, rfl⟩⟩
  case entry =>
    simp only [← minutesUp_eq, ← cooldownWait_eq]
    refine ite_eq_firstApplying Iff.rfl fun _ => ite_eq_firstApplying Iff.rfl fun _ =>
      ite_eq_firstApplying Iff.rfl fun _ => ite_eq_firstApplying (decide_eq_true_iff).symm fun _ =>
      ite_eq_firstApplying (decide_eq_true_iff).symm fun _ => ite_eq_firstApplying Iff.rfl fun _ =>
      ite_eq_firstApplying (decide_eq_true_iff).symm fun notInside =>
      ite_eq_firstApplying (decide_eq_true_iff).symm fun _ => ite_eq_firstApplying ?cooldown fun _ =>
      ite_eq_firstApplying Iff.rfl fun _ => ite_eq_firstApplying (decide_eq_true_iff).symm fun notFresh =>
      eq_firstApplying_last _ ?outside
    case cooldown => rw [decide_eq_true_iff, cooldownWait_eq, Int.lt_toNat, Nat.cast_zero]
    case outside =>
      cases use : r.uses.use with
      | fresh => exact absurd use notFresh
      | inside => exact absurd use notInside
      | outside => rfl
  case exit =>
    exact ite_eq_firstApplying (decide_eq_true_iff).symm fun _ => ite_eq_firstApplying Iff.rfl fun _ =>
      ite_eq_firstApplying Iff.rfl fun _ => eq_firstApplying_last _ rfl
  case again =>
    have saturates : (if reentries < 15 then reentries + 1 else 15) = min 15 (reentries + 1) := by
      split <;> omega
    simp only [useOutcome, saturates]

/-! ### The entry at the head of the intake queue -/

theorem State.lapseIfOverdue_of_noneOverdue {s : State} (onTime : s.noneOverdue) (i : HoldNo) :
    s.lapseIfOverdue i = s := by
  unfold State.lapseIfOverdue
  cases live : s.holdAt i with
  | none => rfl
  | some h => exact if_neg (Nat.not_le.mpr (onTime i h live))

theorem State.lapseOverdue_of_noneOverdue {s : State} (onTime : s.noneOverdue) : s.lapseOverdue = s :=
  List.foldl_fixed' (State.lapseIfOverdue_of_noneOverdue onTime) holdNos

/-- While no hold is overdue, an entry is performed on the part with nothing but that entry taken from it (R41). -/
theorem State.takeEntry_of_noneOverdue {s : State} (onTime : s.noneOverdue) (rest : List Intake)
    (perform : State → State) : s.takeEntry rest perform = perform (s.intakeLeft rest) := by
  rw [State.takeEntry, State.lapseOverdue_of_noneOverdue onTime]
  rfl

/-! ### The hold a notice matches -/

theorem mem_holdNos (i : HoldNo) : i ∈ holdNos :=
  List.mem_map.mpr ⟨i.val, List.mem_range.mpr i.isLt, Fin.ext (Nat.mod_eq_of_lt i.isLt)⟩

theorem State.holdOfTag_some {s : State} {t : Tag} {i : HoldNo} (found : s.holdOfTag t = some i) :
    ∃ h, s.holdAt i = some h ∧ h.tag = t := by
  simpa only [Option.any_eq_true, beq_iff_eq] using List.find?_some found

/-- A tag on one live hold alone leads to that hold (R43, R52). -/
theorem State.holdOfTag_of_unique {s : State} {t : Tag} {i : HoldNo} {h : Hold} (live : s.holdAt i = some h)
    (tagged : h.tag = t) (unique : ∀ j g, s.holdAt j = some g → g.tag = t → j = i) : s.holdOfTag t = some i := by
  cases found : s.holdOfTag t with
  | none =>
    have untagged := List.find?_eq_none.mp found i (mem_holdNos i)
    simp [live, tagged] at untagged
  | some j =>
    obtain ⟨g, live', tagged'⟩ := State.holdOfTag_some found
    rw [unique j g live' tagged']

theorem State.matchedHold_of_unique {s : State} {t : Tag} {i : HoldNo} {h : Hold} {r : Record}
    (live : s.holdAt i = some h) (tagged : h.tag = t) (unique : ∀ j g, s.holdAt j = some g → g.tag = t → j = i)
    (record : s.recordAt h.position = some r) : s.matchedHold t r.key = some (i, h) := by
  simp [State.matchedHold, State.holdOfTag_of_unique live tagged unique, live, record]

/-- No hold is matched when each one with the tag is on a record of another key (R52). -/
theorem State.matchedHold_eq_none {s : State} {t : Tag} {k : Key}
    (stray : ∀ i h, s.holdAt i = some h → h.tag = t → ∀ r, s.recordAt h.position = some r → r.key ≠ k) :
    s.matchedHold t k = none := by
  unfold State.matchedHold
  cases found : s.holdOfTag t with
  | none => rfl
  | some i =>
    obtain ⟨h, live, tagged⟩ := State.holdOfTag_some found
    have other_key : (s.recordAt h.position).any (·.key == k) = false := by
      simpa [Option.any_eq_false] using stray i h live tagged
    simp [live, other_key]

theorem State.endHold_of_recordAt {s : State} {h : Hold} {r : Record} (record : s.recordAt h.position = some r)
    (i : HoldNo) (u : UseFields) :
    s.endHold i h u = (s.writeRecord h.position { r with uses := u, hold := none }).setHold i none := by
  simp only [State.endHold, State.releaseRecord, record]

/-- A DUPLICATE report goes out for an entry from INSIDE and for nothing else (R63). -/
theorem State.reportDuplicate_eq (s : State) (kind : Kind) (u : UseFields) (k : Key) (o : Occasion) (time : Nat)
    (origin : UseOrigin) :
    s.reportDuplicate kind u k o time origin =
      if kind = .entry ∧ u.use = .inside then s.report (.duplicate k o time origin) else s := by
  simp [State.reportDuplicate, isDuplicate]

/-! ### PASSED, ABANDON and LATE_USE taken -/

section
variable {s : State} {t : Tag} {k : Key} {kind : Kind} {time : Nat} {rest : List Intake}

theorem exec_passed_of_match {i : HoldNo} {h : Hold} (live : s.live) (onTime : s.noneOverdue)
    (head : s.hdu.intake = .passed t k kind time :: rest) (matched : s.matchedHold t k = some (i, h)) :
    exec .passed s = .next ((s.intakeLeft rest).commit i h k time) := by
  have matched_left : (s.intakeLeft rest).matchedHold t k = some (i, h) := matched
  simp only [exec, execPassed, whenRunning_of_live live, head, State.takeEntry_of_noneOverdue onTime, matched_left]

theorem exec_passed_of_stray (live : s.live) (onTime : s.noneOverdue)
    (head : s.hdu.intake = .passed t k kind time :: rest) (stray : s.matchedHold t k = none) :
    exec .passed s = .next ((s.intakeLeft rest).applyUse k kind time (.tag t)) := by
  have stray_left : (s.intakeLeft rest).matchedHold t k = none := stray
  simp only [exec, execPassed, whenRunning_of_live live, head, State.takeEntry_of_noneOverdue onTime, stray_left]

theorem exec_abandon_of_match {i : HoldNo} {h : Hold} (live : s.live) (onTime : s.noneOverdue)
    (head : s.hdu.intake = .abandon t k :: rest) (matched : s.matchedHold t k = some (i, h)) :
    exec .abandon s = .next ((s.intakeLeft rest).endHold i h h.snapshot) := by
  have matched_left : (s.intakeLeft rest).matchedHold t k = some (i, h) := matched
  simp only [exec, execAbandon, whenRunning_of_live live, head, State.takeEntry_of_noneOverdue onTime, matched_left]

theorem exec_abandon_of_stray (live : s.live) (onTime : s.noneOverdue) (head : s.hdu.intake = .abandon t k :: rest)
    (stray : s.matchedHold t k = none) :
    exec .abandon s = .next
      { s.intakeLeft rest with
        hdu :=
          { (s.intakeLeft rest).hdu with strayAbandons := bump (s.intakeLeft rest).hdu.strayAbandons } } := by
  have stray_left : (s.intakeLeft rest).matchedHold t k = none := stray
  simp only [exec, execAbandon, whenRunning_of_live live, head, State.takeEntry_of_noneOverdue onTime, stray_left]

theorem exec_lateUse {part lane : Nat} (live : s.live) (onTime : s.noneOverdue)
    (head : s.hdu.intake = .lateUse part lane k kind time :: rest) :
    exec .lateUse s = .next ((s.intakeLeft rest).applyUse k kind time (.lane part lane)) := by
  simp only [exec, execLateUse, whenRunning_of_live live, head, State.takeEntry_of_noneOverdue onTime]

end

/-- Settles O44: the hold of the tag is the one matched, and ending it writes the record it is on. -/
theorem noticesEndHolds : Obligations.NoticesEndHolds := by
  intro s t k rest live onTime
  refine ⟨fun i h r held tagged unique record key => ?_, fun stray head => ?_⟩
  · have matched : s.matchedHold t k = some (i, h) :=
      key ▸ State.matchedHold_of_unique held tagged unique record
    have ended := State.endHold_of_recordAt (s := s.intakeLeft rest) record i
    refine ⟨fun kind time head => ?_, fun head => ?_⟩
    · rw [exec_passed_of_match live onTime head matched, State.commit, State.reportDuplicate_eq, ended, tagged]
    · rw [exec_abandon_of_match live onTime head matched, ended]
  · exact exec_abandon_of_stray live onTime head (State.matchedHold_eq_none stray)

/-! ### Uses applied -/

section
variable {s : State} {k : Key} (kind : Kind) (time : Nat) (origin : UseOrigin)

theorem State.applyUse_sweeping (sweeping : s.adt.phase = .sweeping) :
    s.applyUse k kind time origin = s.report (.unknownUse k kind time origin) := by
  rw [State.applyUse, if_pos sweeping]

theorem State.applyUse_notFiled (ready : s.adt.phase = .ready) (absent : s.notFiled k) :
    s.applyUse k kind time origin = s.report (.unknownUse k kind time origin) := by
  simp [State.applyUse, ready, State.lookup_of_notFiled absent]

theorem State.applyUse_free {p : Nat} {r : Record} (ready : s.adt.phase = .ready) (filed : s.filedAt k p r)
    (free : r.hold = none) :
    s.applyUse k kind time origin =
      (s.writeRecord p { r with uses := useOutcome kind time r.uses }).reportDuplicate kind r.uses k .appliedUse time
        origin := by
  simp [State.applyUse, ready, State.lookup_of_filedAt filed, filed.1, free]

theorem State.applyUse_held {p : Nat} {r : Record} {i : HoldNo} {h : Hold} (ready : s.adt.phase = .ready)
    (filed : s.filedAt k p r) (held : r.hold = some i) (hold : s.holdAt i = some h) :
    s.applyUse k kind time origin =
      (s.setHold i (some { h with snapshot := useOutcome kind time h.snapshot })).reportDuplicate kind h.snapshot k
        .appliedUse time origin := by
  simp [State.applyUse, ready, State.lookup_of_filedAt filed, filed.1, held, hold]

end

/-- Settles O45: both notices come to `State.applyUse`, and its four cases are those of the statement. -/
theorem usesApplied : Obligations.UsesApplied := by
  intro s e rest row k kind time origin live onTime head notice
  have applied : exec row s = .next ((s.intakeLeft rest).applyUse k kind time origin) := by
    obtain ⟨t, rfl, rfl, rfl, stray⟩ | ⟨part, lane, rfl, rfl, rfl⟩ := notice
    · exact exec_passed_of_stray live onTime head (State.matchedHold_eq_none stray)
    · exact exec_lateUse live onTime head
  rw [applied]
  refine ⟨fun sweeping => ?_, fun ready absent => ?_, fun p r ready filed =>
    ⟨fun free => ?_, fun i h held hold => ?_⟩⟩
  · rw [State.applyUse_sweeping (s := s.intakeLeft rest) kind time origin sweeping]
  · rw [State.applyUse_notFiled (s := s.intakeLeft rest) kind time origin ready absent]
  · rw [State.applyUse_free (s := s.intakeLeft rest) kind time origin ready filed free, State.reportDuplicate_eq]
  · rw [State.applyUse_held (s := s.intakeLeft rest) kind time origin ready filed held hold, State.reportDuplicate_eq]

end Sys2Proof.Machine
end

section
/-! SUPPORT. Lane operation (04_lane_operation.md): what a lane step changes at one lane as a single `State.atLane`, a
presentation taken, and the checks it meets in IDLE. -/

namespace Sys2Proof.Machine

/-! ### Changes at one lane -/

theorem modAt_id {α : Type} {n : Nat} (v : Vector α n) (i : Fin n) : modAt v i id = v := by
  simp [modAt]

theorem modAt_modAt {α : Type} {n : Nat} (v : Vector α n) (i : Fin n) (f g : α → α) :
    modAt (modAt v i f) i g = modAt v i (g ∘ f) := by
  simp [modAt]

section
variable (s : State) (l : LaneNo)

theorem State.modLane_eq_atLane (f : Lane → Lane) : s.modLane l f = s.atLane l f id id := by
  simp only [State.atLane, State.modLane, State.modHead, State.modLine, modAt_id]

theorem State.modLine_eq_atLane (f : Lines → Lines) : s.modLine l f = s.atLane l id id f := by
  simp only [State.atLane, State.modLane, State.modHead, State.modLine, modAt_id]

theorem State.modLane_modHead_eq_atLane (f : Lane → Lane) (g : Head → Head) :
    (s.modLane l f).modHead l g = s.atLane l f g id := by
  simp only [State.atLane, State.modLane, State.modHead, State.modLine, modAt_id]

/-- Two changes at one lane come to one, item by item. -/
theorem State.atLane_atLane (f f' : Lane → Lane) (g g' : Head → Head) (h h' : Lines → Lines) :
    (s.atLane l f g h).atLane l f' g' h' = s.atLane l (f' ∘ f) (g' ∘ g) (h' ∘ h) := by
  simp only [State.atLane, State.modLane, State.modHead, State.modLine, modAt_modAt]

@[simp] theorem State.lane_atLane_same (f : Lane → Lane) (g : Head → Head) (h : Lines → Lines) :
    (s.atLane l f g h).lane l = f (s.lane l) := State.lane_modLane_same s l f

/-- R83. -/
theorem State.dispose_eq_atLane (m : Message) (a : Nat) (k : Option Key) :
    s.dispose l m a k =
      s.atLane l (fun ln => { ln with last := some ⟨⟨m, a, k⟩, s.mgu.clock⟩ })
        (fun h => { h with waiting := some ⟨m, a, k⟩ }) id :=
  s.modLane_modHead_eq_atLane l _ _

/-- A presentation refused in IDLE: its disposition, its indication and the refused counter (R75, R76, R78, R83). -/
theorem State.refused_eq_atLane (m : Message) (a : Nat) (k : Option Key) (i : Indication) :
    ((s.dispose l m a k).indicate l i).countRefused l =
      s.atLane l
        (fun ln =>
          { ln with
            last := some ⟨⟨m, a, k⟩, s.mgu.clock⟩
            counters := { ln.counters with refused := bump ln.counters.refused } })
        (fun h => { h with waiting := some ⟨m, a, k⟩ })
        fun x => { x with indication := i, shownSince := s.timebase } := by
  rw [State.dispose_eq_atLane, State.indicate, State.modLine_eq_atLane, State.countRefused, State.count,
    State.modLane_eq_atLane, State.atLane_atLane, State.atLane_atLane]
  rfl

end

/-! ### A presentation taken -/

/-- The part once the presentation at the head of what waits for a lane is taken, and cell in hand is no (R118). -/
def State.presentationGone (s : State) (l : LaneNo) (rest : List LaneEvent) : State :=
  s.atLane l (fun ln => { ln with events := rest }) (fun h => { h with inHand := false }) id

section
variable {s : State} {l : LaneNo} {p : Presentation}

@[simp] theorem State.presentationGone_lane (rest : List LaneEvent) :
    (s.presentationGone l rest).lane l = { s.lane l with events := rest } := State.lane_atLane_same s l _ _ _

/-- A disposition sent as the presentation is taken: one change at the lane (R74, R83). -/
theorem State.presentationGone_dispose (rest : List LaneEvent) (m : Message) (a : Nat) (k : Option Key) :
    (s.presentationGone l rest).dispose l m a k =
      s.atLane l (fun ln => { ln with events := rest, last := some ⟨⟨m, a, k⟩, s.mgu.clock⟩ })
        (fun h => { h with inHand := false, waiting := some ⟨m, a, k⟩ }) id := by
  rw [State.dispose_eq_atLane, State.presentationGone, State.atLane_atLane]
  rfl

/-- A refusal given as the presentation is taken: one change at the lane (R75, R76, R83). -/
theorem State.presentationGone_refused (rest : List LaneEvent) (m : Message) (a : Nat) (k : Option Key)
    (i : Indication) :
    (((s.presentationGone l rest).dispose l m a k).indicate l i).countRefused l =
      s.atLane l
        (fun ln =>
          { ln with
            events := rest
            last := some ⟨⟨m, a, k⟩, s.mgu.clock⟩
            counters := { ln.counters with refused := bump ln.counters.refused } })
        (fun h => { h with inHand := false, waiting := some ⟨m, a, k⟩ })
        fun x => { x with indication := i, shownSince := s.timebase } := by
  rw [State.refused_eq_atLane, State.presentationGone, State.atLane_atLane]
  rfl

theorem exec_presentation {rest : List LaneEvent} (live : s.live)
    (events : (s.lane l).events = .presentation p :: rest) :
    exec (.presentation l) s = .next ((s.presentationGone l rest).takePresentation l p) := by
  simp only [exec, execPresentation, whenRunning_of_live live, events, State.modLane_modHead_eq_atLane]
  rfl

theorem State.takePresentation_closed (state : (s.lane l).state = .closed) :
    s.takePresentation l p = s.dispose l .laneClosed 0 none := by
  simp only [State.takePresentation, state]

theorem State.takePresentation_released (state : (s.lane l).state = .released) :
    s.takePresentation l p = s.dispose l .emergency 0 none := by
  simp only [State.takePresentation, state]

theorem State.takePresentation_idle (state : (s.lane l).state = .idle) :
    s.takePresentation l p = s.processPresentation l p := by
  simp only [State.takePresentation, state]

theorem State.takePresentation_discarded
    (state : (s.lane l).state = .validating ∨ (s.lane l).state = .awaitPass ∨ (s.lane l).state = .fault) :
    s.takePresentation l p = s := by
  obtain validating | awaitPass | fault := state
  · simp only [State.takePresentation, validating]
  · simp only [State.takePresentation, awaitPass]
  · simp only [State.takePresentation, fault]

/-! ### The checks in IDLE -/

theorem State.second_of_clock {t : Nat} (clock : s.mgu.clock = some t) : s.second = (t, s) := by
  simp only [State.second, clock]

/-- R75. -/
theorem Lane.isStale_eq_true {ln : Lane} {age : Nat} (stale : ln.config.staleLimit * 10 < age) :
    ln.isStale age = true := decide_eq_true stale

/-- R75: a presentation as old as the stale limit is not stale. -/
theorem Lane.isStale_eq_false {ln : Lane} {age : Nat} (timely : age ≤ ln.config.staleLimit * 10) :
    ln.isStale age = false := decide_eq_false (Nat.not_lt.mpr timely)

/-- R77: the same key again, within the window the lane's echo record opens. -/
theorem Lane.isEcho_iff (ln : Lane) (k : Key) (t : Nat) :
    ln.isEcho k t = true ↔
      ∃ e, ln.echo = some e ∧ ln.config.echoWindow ≠ 0 ∧ e.key = k ∧ e.time ≤ t ∧
        t ≤ e.time + ln.config.echoWindow := by
  unfold Lane.isEcho
  cases echo : ln.echo with
  | none => simp
  | some e => simp [and_assoc, Nat.add_comm]

theorem State.processPresentation_stale {t : Nat} (clock : s.mgu.clock = some t)
    (stale : (s.lane l).config.staleLimit * 10 < p.age) :
    s.processPresentation l p = ((s.dispose l .tryAgain 0 none).indicate l .retry).countRefused l := by
  simp only [State.processPresentation, State.second_of_clock clock, Lane.isStale_eq_true stale, if_true]

theorem State.processPresentation_misread {t : Nat} (clock : s.mgu.clock = some t)
    (timely : p.age ≤ (s.lane l).config.staleLimit * 10) (misread : formKey p.medium p.length p.payload = none) :
    s.processPresentation l p = ((s.dispose l .rescan 0 none).indicate l .retry).countRefused l := by
  simp [State.processPresentation, State.second_of_clock clock, Lane.isStale_eq_false timely, misread]

/-- A presentation that is neither stale nor misread goes on to the echo check (R77). -/
theorem State.processPresentation_read {t : Nat} {k : Key} (clock : s.mgu.clock = some t)
    (timely : p.age ≤ (s.lane l).config.staleLimit * 10) (read : formKey p.medium p.length p.payload = some k) :
    s.processPresentation l p = s.echoCheck l k t := by
  simp [State.processPresentation, State.second_of_clock clock, Lane.isStale_eq_false timely, read]

theorem State.echoCheck_echo {k : Key} {t : Nat} (echo : (s.lane l).isEcho k t = true) : s.echoCheck l k t = s :=
  if_pos echo

end

/-- Settles O52: by the state the lane is in, and in IDLE by the check that ends the presentation. -/
theorem presentationChecks : Obligations.PresentationChecks := by
  intro s l p rest live events
  have state : ((s.presentationGone l rest).lane l).state = (s.lane l).state := by simp
  have config : ((s.presentationGone l rest).lane l).config = (s.lane l).config := by simp
  have echoes : ((s.presentationGone l rest).lane l).echo = (s.lane l).echo := by simp
  simp only [exec_presentation live events]
  refine ⟨fun closed => ?_, fun released => ?_, fun discarded => ?_, fun t idle clock => ?_⟩
  · rw [State.takePresentation_closed (state.trans closed), State.presentationGone_dispose]
    rfl
  · rw [State.takePresentation_released (state.trans released), State.presentationGone_dispose]
    rfl
  · rw [State.takePresentation_discarded (by rwa [state]), State.presentationGone]
  · have clock_gone : (s.presentationGone l rest).mgu.clock = some t := clock
    rw [State.takePresentation_idle (state.trans idle), ← config, ← echoes]
    refine ⟨fun stale => ?_, fun timely misread => ?_, fun k e timely read echo window key before within => ?_⟩
    · rw [State.processPresentation_stale clock_gone stale, State.presentationGone_refused]
      rfl
    · rw [State.processPresentation_misread clock_gone timely misread, State.presentationGone_refused]
      rfl
    · have isEcho := (Lane.isEcho_iff _ k t).mpr ⟨e, echo, window, key, before, within⟩
      rw [State.processPresentation_read clock_gone timely read, State.echoCheck_echo isEcho, State.presentationGone]

end Sys2Proof.Machine
end

section
/-! SUPPORT. Remote claims and degraded admission (07_remote_claims_and_degraded_admission.md): room for a general cell,
where a notice goes, the drain of the provisional log, and what becomes of the cells the ring returns. -/

namespace Sys2Proof.Machine

/-! ### Where a notice goes -/

/-- R148. -/
theorem Grp.generalRoom_iff (g : Grp) :
    g.generalRoom = true ↔ g.localQueue.length < 32 ∧ (g.localQueue.filter fun x => x.body.general).length < 24 := by
  rw [Grp.generalRoom, Bool.and_eq_true, decide_eq_true_iff, decide_eq_true_iff]
  exact and_comm

theorem State.sendNotice_atHome {s : State} {k : Key} (home : k.value % s.grp.size = s.grp.position) (e : Intake) :
    s.sendNotice e k = s.offerIntake e := if_pos home

theorem State.sendNotice_away {s : State} {k : Key} (away : k.value % s.grp.size ≠ s.grp.position) (e : Intake) :
    s.sendNotice e k = s.offer ⟨k.value % s.grp.size, .intake e⟩ := if_neg away

/-! ### The drain of the provisional log -/

section
variable {s : State} {r : LogRecord} {rest : List LogRecord}

theorem exec_drainLateUse_of_empty (live : s.live) (empty : s.clt.log = []) : exec .drainLateUse s = .next s := by
  simp only [exec, execDrainLateUse, whenRunning_of_live live, empty]

/-- The head record waits while it is PENDING, while the ring is DOWN, and while a general cell finds no room (R138). -/
theorem exec_drainLateUse_of_waiting (live : s.live) (log : s.clt.log = r :: rest)
    (waiting : r.state = .pending ∨ s.grp.ringUp = false ∨ s.grp.generalRoom = false) :
    exec .drainLateUse s = .next s := by
  have not_due : ¬(r.state = .done ∧ s.grp.ringUp ∧ s.grp.generalRoom) := by
    rintro ⟨done, up, room⟩
    obtain pending | down | full := waiting
    · exact LogState.noConfusion (pending.symm.trans done)
    · exact Bool.noConfusion (down.symm.trans up)
    · exact Bool.noConfusion (full.symm.trans room)
  simp only [exec, execDrainLateUse, whenRunning_of_live live, log, if_neg not_due]

/-- A head record that is due leaves the log, and its LATE_USE goes to its home (R138). -/
theorem exec_drainLateUse_of_due (live : s.live) (log : s.clt.log = r :: rest) (done : r.state = .done)
    (up : s.grp.ringUp = true) (room : s.grp.generalRoom = true) :
    exec .drainLateUse s = .next
      ((s.setLog rest).sendNotice (.lateUse s.grp.position r.lane r.key r.kind r.time) r.key) := by
  have due : r.state = .done ∧ s.grp.ringUp ∧ s.grp.generalRoom := ⟨done, up, room⟩
  simp only [exec, execDrainLateUse, whenRunning_of_live live, log, if_pos due]

end

/-! ### Cells the ring returns -/

section
variable {s : State} {t : Tag} {k : Key}

/-- R131: the REMOTE entry of the tag's lane is the returned claim's own. -/
theorem State.claimReturned_of_match {l : LaneNo} {e : TrackerEntry} (lane : t.lane = l.val)
    (place : s.place l = some e) (remote : e.mode = .remote) (seq : e.seq = t.seq) (key : e.key = k) :
    s.claimReturned t k = s.unreachable l e := by
  obtain ⟨part, _, _⟩ := t
  subst lane
  simp [State.claimReturned, place, remote, seq, key]

/-- R131: no REMOTE entry at the tag's lane has the returned claim's sequence and key. -/
theorem State.claimReturned_of_noMatch
    (noMatch : ∀ (l : LaneNo) e, t.lane = l.val → s.place l = some e → e.mode = .remote → e.seq = t.seq → e.key ≠ k) :
    s.claimReturned t k = s := by
  unfold State.claimReturned
  split
  next lt =>
    split
    next e place => exact if_neg fun ⟨remote, seq, key⟩ => noMatch ⟨t.lane, lt⟩ e rfl place remote seq key
    next => rfl
  next => rfl

end

theorem logHasEntry_iff (log : List LogRecord) (k : Key) :
    logHasEntry log k = true ↔ ∃ x ∈ log, x.kind = .entry ∧ x.key = k := by
  simp [logHasEntry]

/-- The put-back is refused by a full log, and for an ENTRY whose key has an ENTRY record again (R139). -/
def State.putBackRefused (s : State) (k : Key) (kind : Kind) : Prop :=
  256 ≤ s.clt.log.length ∨ kind = .entry ∧ ∃ x ∈ s.clt.log, x.kind = .entry ∧ x.key = k

theorem State.putBackRefused_iff (s : State) (k : Key) (kind : Kind) :
    s.putBackRefused k kind ↔ Config.logPlaces ≤ s.clt.log.length ∨ (kind = .entry ∧ logHasEntry s.clt.log k) := by
  rw [logHasEntry_iff]
  rfl

theorem State.lateUseReturned_of_refused {s : State} {k : Key} {kind : Kind} (refused : s.putBackRefused k kind)
    (lane time : Nat) :
    s.lateUseReturned lane k kind time = { s with clt := { s.clt with logDrops := bump s.clt.logDrops } } :=
  if_pos ((s.putBackRefused_iff k kind).mp refused)

theorem State.lateUseReturned_of_taken {s : State} {k : Key} {kind : Kind} (taken : ¬s.putBackRefused k kind)
    (lane time : Nat) :
    s.lateUseReturned lane k kind time = s.setLog (⟨k, kind, lane, time, .done⟩ :: s.clt.log) :=
  if_neg fun refused => taken ((s.putBackRefused_iff k kind).mpr refused)

/-- Settles O49: the drain by what its head record waits for, a returned claim by the entry it meets, and a returned
use by the two refusals of the put-back. -/
theorem logDrainsAndReturns : Obligations.LogDrainsAndReturns := by
  refine ⟨fun s live => ⟨exec_drainLateUse_of_empty live, fun r rest log => ⟨fun waiting => ?_, fun done up room => ?_⟩⟩,
    fun s t k => ⟨fun l e lane place remote seq key => State.claimReturned_of_match lane place remote seq key,
      State.claimReturned_of_noMatch⟩,
    fun s lane k kind time => ⟨fun refused => State.lateUseReturned_of_refused refused lane time,
      fun taken => State.lateUseReturned_of_taken taken lane time⟩⟩
  · rw [← Grp.generalRoom_iff, Bool.not_eq_true] at waiting
    exact exec_drainLateUse_of_waiting live log waiting
  · rw [exec_drainLateUse_of_due live log done up ((Grp.generalRoom_iff s.grp).mpr room)]
    exact ⟨fun home => congrArg Host.Outcome.next (State.sendNotice_atHome (s := s.setLog rest) home _),
      fun away => congrArg Host.Outcome.next (State.sendNotice_away (s := s.setLog rest) away _)⟩

end Sys2Proof.Machine
end

section
/-! SUPPORT. Zone counts (09_zone_counts.md): a command in STRAP_FAULT, a command that names a zone, and the zone
commands of the management queue. -/

namespace Sys2Proof.Machine

/-! ### A command that names a zone -/

theorem State.onZone_of_above {s : State} {n : Nat} (above : 7 < n) (run : ZoneNo → Answer) :
    s.onZone n run = s.refuse .badArg := dif_neg (Nat.not_lt.mpr above)

theorem State.onZone_val (s : State) (z : ZoneNo) (run : ZoneNo → Answer) : s.onZone z.val run = run z :=
  dif_pos z.isLt

theorem State.setZone_of_above {s : State} {n : Nat} (above : 7 < n) (quota : Nat) :
    s.setZone n quota = s.refuse .badArg := State.onZone_of_above above _

theorem State.setZone_val (s : State) (z : ZoneNo) (quota : Nat) :
    s.setZone z.val quota = (s.modZone z fun r => { r with quota := quota }).accept (.quota quota) :=
  s.onZone_val z _

theorem State.readZone_of_above {s : State} {n : Nat} (above : 7 < n) (clear : Bool) :
    s.readZone n clear = s.refuse .badArg := State.onZone_of_above above _

theorem State.readZone_val_keep (s : State) (z : ZoneNo) :
    s.readZone z.val false = s.accept (.zone (s.zone z)) := s.onZone_val z _

/-- The values returned are those before the underflow is cleared (R163). -/
theorem State.readZone_val_clear (s : State) (z : ZoneNo) :
    s.readZone z.val true = (s.modZone z fun r => { r with underflow := 0 }).accept (.zone (s.zone z)) :=
  s.onZone_val z _

/-! ### The zone commands of the management queue -/

section
variable {s : State} {c : MgmtCell} {rest : List MgmtCell}

/-- In STRAP_FAULT a command is answered BAD_STRAP and not run, whatever it is (R161, R163). -/
theorem State.execute_of_strapFault (fault : s.grp.size ≤ s.grp.position) (c : MgmtCell) (rest : List MgmtCell)
    (run : State → Answer) : s.execute c rest run = s.replied rest c .badStrap .nothing := by
  have strapFault : s.grp.strapFault = true := by simpa [Grp.strapFault] using fault
  simp only [State.execute, strapFault]
  rfl

theorem exec_setZone {n quota : Nat} (live : s.live) (head : s.headCommand c rest)
    (command : c.command = .setZone n quota) :
    exec .setZone s = .next (s.execute c rest fun s => s.setZone n quota) := by
  obtain ⟨src, req, _⟩ := c
  subst command
  simp only [exec, execSetZone, whenRunning_of_live live, head.queue_eq]

theorem exec_readZone {n : Nat} {clear : Bool} (live : s.live) (head : s.headCommand c rest)
    (command : c.command = .readZone n clear) :
    exec .readZone s = .next (s.execute c rest fun s => s.readZone n clear) := by
  obtain ⟨src, req, _⟩ := c
  subst command
  simp only [exec, execReadZone, whenRunning_of_live live, head.queue_eq]

end

/-- Settles O28: each command by the test of the straps, then by the zone it names, and READ_ZONE by its clear flag. -/
theorem zoneCommands : Obligations.ZoneCommands := by
  intro s c rest live head
  refine ⟨fun n quota command => ?_, fun n clear command => ?_⟩
  · rw [exec_setZone live head command]
    refine ⟨fun fault => ?_, fun sound above => ?_, fun z sound zone => ?_⟩
    · rw [State.execute_of_strapFault fault]
    · rw [State.execute_of_able ⟨live, sound⟩, State.setZone_of_above above, State.refuse_sent, State.replied]
    · rw [State.execute_of_able ⟨live, sound⟩, zone, State.setZone_val, State.accept_sent]
  · rw [exec_readZone live head command]
    refine ⟨fun fault => ?_, fun sound above => ?_, fun z sound zone kept => ?_, fun z sound zone cleared => ?_⟩
    · rw [State.execute_of_strapFault fault]
    · rw [State.execute_of_able ⟨live, sound⟩, State.readZone_of_above above, State.refuse_sent, State.replied]
    · rw [State.execute_of_able ⟨live, sound⟩, zone, kept, State.readZone_val_keep, State.accept_sent]
      rfl
    · rw [State.execute_of_able ⟨live, sound⟩, zone, cleared, State.readZone_val_clear, State.accept_sent]
      rfl

end Sys2Proof.Machine
end

section
/-! SUPPORT. What a row of the table comes to: the command of a management row by the tests that come before its own
effect, a row that is not due, and the frame of an answer that has been sent. -/

namespace Sys2Proof.Machine

/-! ### Rows and the reset line -/

theorem whenRunning_of_reset {s : State} (held : s.inReset = true) (f : State → State) :
    whenRunning s f = .next s := if_pos held

/-- Settles O1: both clauses are the two cases of the queue. -/
theorem stepRunsFrontCommand : Obligations.StepRunsFrontCommand :=
  ⟨fun _ _ _ => rfl, fun _ => rfl⟩

/-- Every row but POWER_ON and RSTN_LOW is a step of the running part (R152, section 5.7). -/
theorem exec_eq_whenRunning {c : Instr} (notPowerOn : ∀ pins, c ≠ .powerOn pins) (notRstnLow : c ≠ .rstnLow) :
    ∃ f : State → State, ∀ s, exec c s = whenRunning s f := by
  cases c
  case powerOn pins => exact absurd rfl (notPowerOn pins)
  case rstnLow => exact absurd rfl notRstnLow
  all_goals exact ⟨_, fun _ => rfl⟩

/-- Settles O3: every row but two acts only while the part is running. -/
theorem heldInResetNothingActs : Obligations.HeldInResetNothingActs := by
  intro c s held notPowerOn notRstnLow
  obtain ⟨f, exec_eq⟩ := exec_eq_whenRunning notPowerOn notRstnLow
  rw [exec_eq, whenRunning_of_reset held]

/-! ### An answer sent -/

/-- Reports touch the ring port only, and of it neither the straps nor the output. -/
theorem foldl_report_frame (reports : List Report) (s : State) :
    (reports.foldl State.report s).pending = s.pending ∧ (reports.foldl State.report s).inReset = s.inReset ∧
      (reports.foldl State.report s).timebase = s.timebase ∧
      (reports.foldl State.report s).freeCount = s.freeCount ∧ (reports.foldl State.report s).adt = s.adt ∧
      (reports.foldl State.report s).hdu = s.hdu ∧ (reports.foldl State.report s).clt = s.clt ∧
      (reports.foldl State.report s).lanes = s.lanes ∧ (reports.foldl State.report s).lbp = s.lbp ∧
      (reports.foldl State.report s).zcu = s.zcu ∧ (reports.foldl State.report s).tlu = s.tlu ∧
      (reports.foldl State.report s).mgu = s.mgu := by
  induction reports generalizing s with
  | nil => simp
  | cons r reports ih => simp [ih]

@[simp] theorem Answer.sent_frame (a : Answer) (c : MgmtCell) :
    (a.sent c).pending = a.state.pending ∧ (a.sent c).inReset = a.state.inReset ∧
      (a.sent c).timebase = a.state.timebase ∧ (a.sent c).freeCount = a.state.freeCount ∧
      (a.sent c).adt = a.state.adt ∧ (a.sent c).hdu = a.state.hdu ∧ (a.sent c).clt = a.state.clt ∧
      (a.sent c).lanes = a.state.lanes ∧ (a.sent c).lbp = a.state.lbp ∧ (a.sent c).zcu = a.state.zcu ∧
      (a.sent c).tlu = a.state.tlu ∧ (a.sent c).mgu = a.state.mgu :=
  foldl_report_frame a.reports _

/-! ### What each command comes to -/

/-- What a command does when its own tests are reached (R165). GATE_CLEAR has none: it resets the part (R172). -/
def Command.run : Command → State → Answer
  | .putRecord im, s => s.putRecord im
  | .loadOpen count, s => s.loadOpen count
  | .loadRecords count first second, s => s.loadRecords count first second
  | .loadAbort, s => s.loadAbort
  | .voidKey k, s => s.voidKey k
  | .restoreKey k, s => s.restoreKey k
  | .dropKey k, s => s.dropKey k
  | .queryKey k, s => s.queryKey k
  | .setLane lane fitted direction zone classes priority pw ew sl policy, s =>
    s.setLane lane fitted direction zone classes priority pw ew sl policy
  | .laneOpen lane, s => s.laneOpen lane
  | .laneClose lane, s => s.laneClose lane
  | .laneReset lane, s => s.laneReset lane
  | .laneRelease lane, s => s.laneRelease lane
  | .readLane lane clear, s => s.readLane lane clear
  | .setZone zone quota, s => s.setZone zone quota
  | .readZone zone clear, s => s.readZone zone clear
  | .setClock second, s => s.setClock second
  | .setGate timeout limit mask, s => s.setGate timeout limit mask
  | .readGate clear, s => s.readGate clear
  | .emergencyClear, s => s.emergencyClear
  | .gateClear, s => s.accept .nothing
  | .unknown _, s => s.refuse .badArg

/-- The commands answered in STRAP_FAULT as in any other condition (R155, R165). -/
def Command.always : Command → Bool
  | .readGate _ | .gateClear | .unknown _ => true
  | _ => false

/-- The reset of GATE_CLEAR with its reply (R172). -/
def State.gateCleared (s : State) (pins : Pins) (c : MgmtCell) : State :=
  let s1 := s.resetBlocks pins
  (s1.reply c .ok (.straps s1.grp.position s1.grp.size s1.grp.strapFault)).reportReset pins

section
variable {s : State} {c : MgmtCell} {rest : List MgmtCell}

theorem exec_gateClear (live : s.live) (head : s.headCommand c rest) (command : c.command = .gateClear)
    (pins : Pins) : exec (.gateClear pins) s = .next (s.gateCleared pins c) := by
  obtain ⟨src, req, _⟩ := c
  subst command
  simp only [exec, execGateClear, whenRunning_of_live live, head.queue_eq]
  rfl

/-- A command answered in every condition of the part. -/
theorem exec_row_always (live : s.live) (head : s.headCommand c rest) (always : c.command.always = true)
    (notClear : c.command ≠ .gateClear) (pins : Pins) (access : LoadAccess) :
    exec (c.command.row pins access) s = .next ((c.command.run (s.commandsLeft rest)).sent c) := by
  obtain ⟨src, req, command⟩ := c
  cases command with
  | readGate clear =>
    simp only [Command.row, exec, execReadGate, whenRunning_of_live live, head.queue_eq]
    rfl
  | unknown code =>
    simp only [Command.row, exec, execUnknownCommand, whenRunning_of_live live, head.queue_eq]
    rfl
  | gateClear => exact absurd rfl notClear
  | _ => exact absurd always Bool.false_ne_true

/-- A command that names no lane, outside the first access of LOAD_RECORDS, is executed as its row comes. -/
theorem exec_row_execute (live : s.live) (head : s.headCommand c rest) (always : c.command.always = false)
    (noLane : c.command.laneNamed = none) (pins : Pins) (access : LoadAccess)
    (whole : ∀ count first second, c.command = .loadRecords count first second →
      s.loadsFirstAlone access count = false) :
    exec (c.command.row pins access) s = .next (s.execute c rest c.command.run) := by
  obtain ⟨src, req, command⟩ := c
  have queue := head.queue_eq
  cases command
  case readGate | gateClear | unknown => exact absurd always (by simp [Command.always])
  case setLane | laneOpen | laneClose | laneReset | laneRelease | readLane =>
    exact absurd noLane (by simp [Command.laneNamed])
  case loadRecords count first second =>
    simp only [Command.row, exec, execLoadRecords, whenRunning_of_live live, queue, whole count first second rfl]
    rfl
  case putRecord => simp only [Command.row, exec, execPutRecord, whenRunning_of_live live, queue]; rfl
  case loadOpen => simp only [Command.row, exec, execLoadOpen, whenRunning_of_live live, queue]; rfl
  case loadAbort => simp only [Command.row, exec, execLoadAbort, whenRunning_of_live live, queue]; rfl
  case voidKey => simp only [Command.row, exec, execVoidKey, whenRunning_of_live live, queue]; rfl
  case restoreKey => simp only [Command.row, exec, execRestoreKey, whenRunning_of_live live, queue]; rfl
  case dropKey => simp only [Command.row, exec, execDropKey, whenRunning_of_live live, queue]; rfl
  case queryKey => simp only [Command.row, exec, execQueryKey, whenRunning_of_live live, queue]; rfl
  case setZone => simp only [Command.row, exec, execSetZone, whenRunning_of_live live, queue]; rfl
  case readZone => simp only [Command.row, exec, execReadZone, whenRunning_of_live live, queue]; rfl
  case setClock => simp only [Command.row, exec, execSetClock, whenRunning_of_live live, queue]; rfl
  case setGate => simp only [Command.row, exec, execSetGate, whenRunning_of_live live, queue]; rfl
  case emergencyClear => simp only [Command.row, exec, execEmergencyClear, whenRunning_of_live live, queue]; rfl

/-- A command that names a lane is executed in the lane's turn (R72). -/
theorem exec_row_onLane {n : Nat} (live : s.live) (head : s.headCommand c rest) (named : c.command.laneNamed = some n)
    (pins : Pins) (access : LoadAccess) :
    exec (c.command.row pins access) s = .next (s.executeOnLane n c rest c.command.run) := by
  obtain ⟨src, req, command⟩ := c
  have queue := head.queue_eq
  cases command <;> simp only [Command.laneNamed, Option.some.injEq, reduceCtorEq] at named <;> subst named
  case setLane => simp only [Command.row, exec, execSetLane, whenRunning_of_live live, queue]; rfl
  case laneOpen => simp only [Command.row, exec, execLaneOpen, whenRunning_of_live live, queue]; rfl
  case laneClose => simp only [Command.row, exec, execLaneClose, whenRunning_of_live live, queue]; rfl
  case laneReset => simp only [Command.row, exec, execLaneReset, whenRunning_of_live live, queue]; rfl
  case laneRelease => simp only [Command.row, exec, execLaneRelease, whenRunning_of_live live, queue]; rfl
  case readLane => simp only [Command.row, exec, execReadLane, whenRunning_of_live live, queue]; rfl

/-- The access of the first record of a two-record cell alone (R18, R37; log entry 13). -/
theorem exec_loadRecords_first {count : Nat} {first second : Image} {access : LoadAccess} (live : s.live)
    (head : s.headCommand c rest) (command : c.command = .loadRecords count first second)
    (alone : s.loadsFirstAlone access count = true) :
    exec (.loadRecords access) s = .next (s.loadFirstAlone first) := by
  obtain ⟨src, req, _⟩ := c
  subst command
  simp only [exec, execLoadRecords, whenRunning_of_live live, head.queue_eq, alone, if_true]

end

/-- A row whose command does not stand at the head of the command queue is not due (log entry 2). -/
theorem exec_row_of_not_head {s : State} (live : s.live) (d : Command) (pins : Pins) (access : LoadAccess)
    (other : ∀ c rest, s.mgu.queue = c :: rest → c.command.row pins access ≠ d.row pins access) :
    exec (d.row pins access) s = .next s := by
  cases queue : s.mgu.queue with
  | nil =>
    cases d <;> simp only [Command.row, exec, execPutRecord, execLoadOpen, execLoadRecords, execLoadAbort, execVoidKey,
      execRestoreKey, execDropKey, execQueryKey, execSetLane, execLaneOpen, execLaneClose, execLaneReset,
      execLaneRelease, execReadLane, execSetZone, execReadZone, execSetClock, execSetGate, execReadGate,
      execEmergencyClear, execGateClear, execUnknownCommand, whenRunning_of_live live, queue]
  | cons c rest =>
    have different := other c rest queue
    obtain ⟨src, req, command⟩ := c
    cases d <;> simp only [Command.row, exec, execPutRecord, execLoadOpen, execLoadRecords, execLoadAbort, execVoidKey,
      execRestoreKey, execDropKey, execQueryKey, execSetLane, execLaneOpen, execLaneClose, execLaneReset,
      execLaneRelease, execReadLane, execSetZone, execReadZone, execSetClock, execSetGate, execReadGate,
      execEmergencyClear, execGateClear, execUnknownCommand, whenRunning_of_live live, queue] <;>
    (congr 1; split; · rename_i h; cases h; exact absurd rfl different
     · rfl)

/-- In STRAP_FAULT a command is answered BAD_STRAP, whatever it would have come to (R155, R165). -/
theorem exec_row_strapFault {s : State} {c : MgmtCell} {rest : List MgmtCell} (live : s.live)
    (head : s.headCommand c rest) (fault : s.grp.size ≤ s.grp.position) (always : c.command.always = false)
    (pins : Pins) (access : LoadAccess) :
    exec (c.command.row pins access) s = .next (s.replied rest c .badStrap .nothing) := by
  cases named : c.command.laneNamed with
  | some n =>
    rw [exec_row_onLane live head named, State.executeOnLane, State.turnWaits_of_strapFault n fault,
      if_neg Bool.false_ne_true, State.execute_of_strapFault fault]
  | none =>
    rw [exec_row_execute live head always named, State.execute_of_strapFault fault]
    intro count first second _
    simp [State.loadsFirstAlone, Grp.strapFault, fault]

theorem Command.always_eq_false {c : Command} (known : ∀ code, c ≠ .unknown code)
    (notRead : ∀ clear, c ≠ .readGate clear)
    (notClear : c ≠ .gateClear) : c.always = false := by
  cases c
  case unknown code => exact absurd rfl (known code)
  case readGate clear => exact absurd rfl (notRead clear)
  case gateClear => exact absurd rfl notClear
  all_goals rfl

/-- Settles O22: the tests that come before a command's own, in their order. -/
theorem statusBeforeTheCommandsOwn : Obligations.StatusBeforeTheCommandsOwn := by
  intro s pins access live
  refine ⟨fun c rest head => ⟨fun code command => ?_, fun fault known notRead notClear => ?_,
    fun l sound named waits => ?_, fun d different => ?_⟩, fun d empty => ?_⟩
  · have row := exec_row_always live head (by simp [command, Command.always]) (by simp [command]) pins access
    rw [command] at row
    exact row
  · exact exec_row_strapFault live head fault (Command.always_eq_false known notRead notClear) pins access
  · rw [exec_row_onLane live head named, State.executeOnLane, State.turnWaits_of_event sound waits, if_pos rfl]
  · refine exec_row_of_not_head live d pins access fun c' rest' queue => ?_
    rw [head.queue_eq] at queue
    obtain ⟨rfl, rfl⟩ := List.cons.inj queue
    exact different
  · exact exec_row_of_not_head live d pins access fun c rest queue => by simp [empty] at queue

/-! ### Everything a management row can come to -/

/-- What a management row that is due can come to: GATE_CLEAR's reset, BAD_STRAP, the command carried out, or the first
access of a two-record LOAD_RECORDS cell. -/
inductive ManagementEffect (s : State) (pins : Pins) (c : MgmtCell) (rest : List MgmtCell) : State → Prop
  | gateClear (command : c.command = .gateClear) : ManagementEffect s pins c rest (s.gateCleared pins c)
  | badStrap : ManagementEffect s pins c rest (s.replied rest c .badStrap .nothing)
  | carriedOut (command : c.command ≠ .gateClear) :
    ManagementEffect s pins c rest ((c.command.run (s.commandsLeft rest)).sent c)
  | firstAlone (first second : Image) (command : c.command = .loadRecords 2 first second)
    (fresh : s.mgu.firstLoaded = none) (taken : s.loadRefusal 2 = none) :
    ManagementEffect s pins c rest (s.loadFirstAlone first)

theorem State.loadsFirstAlone_iff (s : State) (access : LoadAccess) (count : Nat) :
    s.loadsFirstAlone access count = true ↔
      access = .oneRecord ∧ count = 2 ∧ s.mgu.firstLoaded = none ∧ s.loadRefusal count = none ∧
        s.grp.strapFault = false := by
  simp [State.loadsFirstAlone, and_assoc]

/-- Executing a command answers BAD_STRAP or carries it out. -/
theorem State.execute_effect (s : State) (pins : Pins) (c : MgmtCell) (rest : List MgmtCell)
    (command : c.command ≠ .gateClear) : ManagementEffect s pins c rest (s.execute c rest c.command.run) := by
  cases fault : s.grp.strapFault with
  | true =>
    rw [State.execute_of_strapFault (by simpa [Grp.strapFault] using fault)]
    exact .badStrap
  | false =>
    have carried : s.execute c rest c.command.run = (c.command.run (s.commandsLeft rest)).sent c := by
      simp only [State.execute, fault]
      rfl
    rw [carried]
    exact .carriedOut command

/-- A management row leaves the state as it is, or has the effect of the command at the head of its queue. -/
theorem exec_row_cases {s t : State} (live : s.live) {d : Command} {pins : Pins} {access : LoadAccess}
    (result : exec (d.row pins access) s = .next t) :
    t = s ∨ ∃ c rest, s.headCommand c rest ∧ c.command.row pins access = d.row pins access ∧
      ManagementEffect s pins c rest t := by
  by_cases due : ∃ c rest, s.mgu.queue = c :: rest ∧ c.command.row pins access = d.row pins access
  case neg =>
    rw [exec_row_of_not_head live d pins access fun c rest queue row => due ⟨c, rest, queue, row⟩] at result
    exact .inl (by cases result; rfl)
  case pos =>
    obtain ⟨c, rest, head, row⟩ := due
    rw [← row] at result
    by_cases clear : c.command = .gateClear
    · rw [clear] at result
      change exec (.gateClear pins) s = .next t at result
      rw [exec_gateClear live head clear] at result
      cases result
      exact .inr ⟨c, rest, head, row, .gateClear clear⟩
    cases always : c.command.always with
    | true =>
      rw [exec_row_always live head always clear] at result
      cases result
      exact .inr ⟨c, rest, head, row, .carriedOut clear⟩
    | false =>
      cases named : c.command.laneNamed with
      | some n =>
        rw [exec_row_onLane live head named] at result
        obtain ⟨waits, _⟩ | ⟨runs, _⟩ := s.executeOnLane_cases n c rest c.command.run
        · rw [waits] at result
          exact .inl (by cases result; rfl)
        · rw [runs] at result
          cases result
          exact .inr ⟨c, rest, head, row, s.execute_effect pins c rest clear⟩
      | none =>
        by_cases alone : ∃ count first second,
            c.command = .loadRecords count first second ∧ s.loadsFirstAlone access count = true
        · obtain ⟨count, first, second, command, alone⟩ := alone
          have effect := exec_loadRecords_first live head command alone
          obtain ⟨-, rfl, fresh, taken, -⟩ := (s.loadsFirstAlone_iff access count).mp alone
          rw [command] at result
          change exec (.loadRecords access) s = .next t at result
          rw [effect] at result
          cases result
          exact .inr ⟨c, rest, head, row, .firstAlone first second command fresh taken⟩
        · rw [exec_row_execute live head always named pins access fun count first second command =>
            Bool.eq_false_iff.mpr fun h => alone ⟨count, first, second, command, h⟩] at result
          cases result
          exact .inr ⟨c, rest, head, row, s.execute_effect pins c rest clear⟩

end Sys2Proof.Machine
end

section
/-! SUPPORT. The lane operations as single changes at one lane (`State.atLane`), zone requests joined
(`State.withRequests`), and the statements about passages, the ending of work, and the commands for a lane. -/

namespace Sys2Proof.Machine

/-! ### What a change at one lane leaves -/

@[simp] theorem State.atLane_frame (s : State) (l : LaneNo) (f : Lane → Lane) (g : Head → Head) (h : Lines → Lines) :
    (s.atLane l f g h).pending = s.pending ∧ (s.atLane l f g h).inReset = s.inReset ∧
      (s.atLane l f g h).timebase = s.timebase ∧ (s.atLane l f g h).freeCount = s.freeCount ∧
      (s.atLane l f g h).adt = s.adt ∧ (s.atLane l f g h).hdu = s.hdu ∧ (s.atLane l f g h).clt = s.clt ∧
      (s.atLane l f g h).zcu = s.zcu ∧ (s.atLane l f g h).grp = s.grp ∧ (s.atLane l f g h).mgu = s.mgu ∧
      (s.atLane l f g h).lbp.underWay = s.lbp.underWay :=
  ⟨rfl, rfl, rfl, rfl, rfl, rfl, rfl, rfl, rfl, rfl, rfl⟩

theorem State.lane_atLane (s : State) (l m : LaneNo) (f : Lane → Lane) (g : Head → Head) (h : Lines → Lines) :
    (s.atLane l f g h).lane m = if m = l then f (s.lane l) else s.lane m := s.lane_modLane l m f

theorem State.head_atLane (s : State) (l m : LaneNo) (f : Lane → Lane) (g : Head → Head) (h : Lines → Lines) :
    (s.atLane l f g h).head m = if m = l then g (s.head l) else s.head m := s.head_modHead l m g

theorem State.line_atLane (s : State) (l m : LaneNo) (f : Lane → Lane) (g : Head → Head) (h : Lines → Lines) :
    (s.atLane l f g h).line m = if m = l then h (s.line l) else s.line m := s.line_modLine l m h

@[simp] theorem State.head_atLane_same (s : State) (l : LaneNo) (f : Lane → Lane) (g : Head → Head)
    (h : Lines → Lines) : (s.atLane l f g h).head l = g (s.head l) := by simp [State.head_atLane]

@[simp] theorem State.line_atLane_same (s : State) (l : LaneNo) (f : Lane → Lane) (g : Head → Head)
    (h : Lines → Lines) : (s.atLane l f g h).line l = h (s.line l) := by simp [State.line_atLane]

@[simp] theorem State.place_atLane (s : State) (l m : LaneNo) (f : Lane → Lane) (g : Head → Head) (h : Lines → Lines) :
    (s.atLane l f g h).place m = s.place m := rfl

/-- A change at one lane depends only on what it makes of the items that stand there. -/
theorem modAt_congr {α : Type} {n : Nat} {v : Vector α n} {i : Fin n} {f g : α → α} (same : f v[i] = g v[i]) :
    modAt v i f = modAt v i g := by rw [modAt, modAt, same]

theorem State.atLane_congr {s : State} {l : LaneNo} {f f' : Lane → Lane} {g g' : Head → Head} {h h' : Lines → Lines}
    (lane : f (s.lane l) = f' (s.lane l)) (head : g (s.head l) = g' (s.head l))
    (line : h (s.line l) = h' (s.line l)) : s.atLane l f g h = s.atLane l f' g' h' := by
  simp only [State.atLane, State.modLane, State.modHead, State.modLine, modAt_congr (v := s.lanes) lane,
    modAt_congr (v := s.lbp.heads) head, modAt_congr (v := s.tlu.lines) line]

/-! ### The lane operations as changes at one lane -/

section
variable (s : State) (l : LaneNo)

theorem State.modHead_eq_atLane (g : Head → Head) : s.modHead l g = s.atLane l id g id := by
  simp only [State.atLane, State.modLane, State.modHead, State.modLine, modAt_id]

theorem State.hand_eq_atLane (e : LaneEvent) :
    s.hand l e = s.atLane l (fun ln => { ln with events := ln.events ++ [e] }) id id := s.modLane_eq_atLane l _

theorem State.count_eq_atLane (f : LaneCounters → LaneCounters) :
    s.count l f = s.atLane l (fun ln => { ln with counters := f ln.counters }) id id := s.modLane_eq_atLane l _

theorem State.clearPresentation_eq_atLane :
    s.clearPresentation l = s.atLane l (fun ln => { ln with current := none, passage := none }) id id :=
  s.modLane_eq_atLane l _

/-- R118. -/
theorem State.dropPresentation_eq_atLane :
    s.dropPresentation l =
      s.atLane l (fun ln => { ln with events := ln.events.filter fun e => !e.isPresentation })
        (fun h => { h with inHand := false }) id := s.modLane_modHead_eq_atLane l _ _

/-- R103. -/
theorem State.indicate_eq_atLane (i : Indication) :
    s.indicate l i = s.atLane l id id fun x => { x with indication := i, shownSince := s.timebase } :=
  s.modLine_eq_atLane l _

/-- R71. -/
theorem State.lockArm_eq_atLane :
    s.lockArm l = s.atLane l id id fun x => { x with arm := .locked, latch := .disarmed, passTimer := none } :=
  s.modLine_eq_atLane l _

/-- R106. -/
theorem State.releaseArm_eq_atLane :
    s.releaseArm l = s.atLane l id id fun x => { x with arm := .free, latch := .disarmed, passTimer := none } :=
  s.modLine_eq_atLane l _

/-- R97, R100, R101. -/
theorem State.freeArm_eq_atLane :
    s.freeArm l = s.atLane l id id fun x =>
      { x with
        arm := .free
        latch := if x.sensorActive then .captured else .armed
        passTimer := some (s.timebase + (s.lane l).config.passWindow * 1000) } := s.modLine_eq_atLane l _

/-- R102: the cancel latch is emptied but on entering a state that takes presses. -/
theorem State.enter_eq_atLane (st : LaneState) :
    s.enter l st = s.atLane l (fun ln => { ln with state := st }) id
      fun x => if st.takesCancel then x else { x with cancelSet := false } := by
  simp only [State.enter, State.modLane_eq_atLane, State.modLine_eq_atLane, State.atLane_atLane]
  rfl

theorem Lane.settled_not_takesCancel (ln : Lane) : ln.settled.takesCancel = false := by
  unfold Lane.settled
  split <;> rfl

/-- R70. -/
theorem State.settle_eq_atLane (i : Indication) :
    s.settle l i = s.atLane l (fun ln => { ln with state := (s.lane l).settled }) id
      fun x => { x with cancelSet := false, indication := i, shownSince := s.timebase } := by
  simp only [State.settle, State.enter_eq_atLane, State.indicate_eq_atLane, State.atLane_atLane,
    Lane.settled_not_takesCancel, Bool.false_eq_true, if_false]
  rfl

theorem State.askZone_eq_withRequests (a : ZoneAsk) : s.askZone l a = s.withRequests [⟨l, (s.lane l).config.zone, a⟩] :=
  rfl

/-- R159: an ENTRY lane asks for the release of its place, an EXIT lane for nothing. -/
theorem State.releasePlace_eq_withRequests :
    s.releasePlace l = s.withRequests ((s.lane l).releaseRequest l) := by
  unfold State.releasePlace Lane.releaseRequest
  split
  · rfl
  · simp [State.withRequests]

end

theorem State.withRequests_atLane (s : State) (rs : List ZoneRequest) (l : LaneNo) (f : Lane → Lane) (g : Head → Head)
    (h : Lines → Lines) : (s.withRequests rs).atLane l f g h = (s.atLane l f g h).withRequests rs := rfl

@[simp] theorem State.withRequests_frame (s : State) (rs : List ZoneRequest) :
    (s.withRequests rs).pending = s.pending ∧ (s.withRequests rs).inReset = s.inReset ∧
      (s.withRequests rs).timebase = s.timebase ∧ (s.withRequests rs).freeCount = s.freeCount ∧
      (s.withRequests rs).adt = s.adt ∧ (s.withRequests rs).hdu = s.hdu ∧ (s.withRequests rs).clt = s.clt ∧
      (s.withRequests rs).lanes = s.lanes ∧ (s.withRequests rs).lbp = s.lbp ∧ (s.withRequests rs).tlu = s.tlu ∧
      (s.withRequests rs).grp = s.grp ∧ (s.withRequests rs).mgu = s.mgu :=
  ⟨rfl, rfl, rfl, rfl, rfl, rfl, rfl, rfl, rfl, rfl, rfl, rfl⟩

/-! ### Passages and the ending of work -/

/-- Settles O30: the four changes of R84 at the one lane, and the rotation of an active sensor behind them. -/
theorem passageBegins : Obligations.PassageBegins := by
  intro s l p i
  cases active : (s.line l).sensorActive
  all_goals
    simp only [State.beginPassage, active, State.modLane_eq_atLane, State.enter_eq_atLane, State.freeArm_eq_atLane,
      State.indicate_eq_atLane, State.hand_eq_atLane, State.atLane_atLane, LaneState.takesCancel, if_true, if_false,
      Bool.false_eq_true]
    refine State.atLane_congr ?_ ?_ ?_ <;> simp

theorem dropPending_of_first {l : Nat} {before after : List LogRecord} {r : LogRecord}
    (others : ∀ x ∈ before, x.lane ≠ l ∨ x.state ≠ .pending) (lane : r.lane = l) (pending : r.state = .pending) :
    dropPending l (before ++ r :: after) = before ++ after := by
  induction before with
  | nil => simp [dropPending, lane, pending]
  | cons x before ih =>
    have skipped : ¬(x.lane = l ∧ x.state = .pending) := by
      rw [not_and_or]
      exact others x (by simp)
    rw [List.cons_append, dropPending, if_neg skipped, ih fun y hy => others y (by simp [hy]), List.cons_append]

theorem dropPending_of_none {l : Nat} {log : List LogRecord} (others : ∀ x ∈ log, x.lane ≠ l ∨ x.state ≠ .pending) :
    dropPending l log = log := by
  induction log with
  | nil => rfl
  | cons x log ih =>
    have skipped : ¬(x.lane = l ∧ x.state = .pending) := by
      rw [not_and_or]
      exact others x (by simp)
    rw [dropPending, if_neg skipped, ih fun y hy => others y (by simp [hy])]

section
variable {s : State} {l : LaneNo}

theorem State.disown_of_place {e : TrackerEntry} (place : s.place l = some e) : s.disown l = s.setPlace l none := by
  simp only [State.disown, place]

theorem State.disown_of_none (place : s.place l = none) : s.disown l = s.removePending l := by
  simp only [State.disown, place]

theorem State.abandonPassage_granted {t : Tag} {k : Key} {time : Nat} {r : Option LogRecord}
    (passage : (s.lane l).passage = some ⟨.granted, some t, r⟩) (current : (s.lane l).current = some ⟨k, time⟩) :
    s.abandonPassage l = (s.sendNotice (.abandon t k) k).releasePlace l := by
  simp only [State.abandonPassage, passage, current]

theorem State.abandonPassage_provisional {t : Option Tag} {r : Option LogRecord}
    (passage : (s.lane l).passage = some ⟨.provisional, t, r⟩) :
    s.abandonPassage l = (s.removePending l).releasePlace l := by
  simp only [State.abandonPassage, passage]

theorem State.abandonPassage_unclaimed {t : Option Tag} {r : Option LogRecord}
    (passage : (s.lane l).passage = some ⟨.manual, t, r⟩ ∨ (s.lane l).passage = some ⟨.unchecked, t, r⟩) :
    s.abandonPassage l = s.releasePlace l := by
  obtain manual | unchecked := passage
  · simp only [State.abandonPassage, manual]
  · simp only [State.abandonPassage, unchecked]

theorem State.endWork_validating (state : (s.lane l).state = .validating) :
    s.endWork l = ((s.disown l).releasePlace l).clearPresentation l := by
  simp only [State.endWork, state]

theorem State.endWork_awaitPass (state : (s.lane l).state = .awaitPass) :
    s.endWork l = (s.abandonPassage l).clearPresentation l := by
  simp only [State.endWork, state]

theorem State.endWork_idle (notValidating : (s.lane l).state ≠ .validating)
    (notAwaiting : (s.lane l).state ≠ .awaitPass) :
    s.endWork l = s.clearPresentation l := by
  cases state : (s.lane l).state
  case validating => exact absurd state notValidating
  case awaitPass => exact absurd state notAwaiting
  all_goals simp only [State.endWork, state]

/-- Giving the place back reads the lane's record only. -/
theorem State.releasePlace_of_lane {t : State} (lane : t.lane l = s.lane l) :
    t.releasePlace l = t.withRequests ((s.lane l).releaseRequest l) := by
  rw [State.releasePlace_eq_withRequests, lane]

end

theorem State.lane_sendNotice (s : State) (e : Intake) (k : Key) (m : LaneNo) : (s.sendNotice e k).lane m = s.lane m :=
  State.lane_congr (by simp) m

/-- Settles O31: by the lane's state and its passage; the record by the place it has in the log. -/
theorem workInFlightEnds : Obligations.WorkInFlightEnds := by
  intro s l
  refine ⟨fun validating tracked => ?_, fun validating untracked => ?_, fun t k time r awaiting passage current => ?_,
    fun t r awaiting passage => ?_, fun t r awaiting passage => ?_, fun notValidating notAwaiting => ?_,
    fun before r after log others lane pending => ?_, dropPending_of_none⟩
  · obtain ⟨e, place⟩ := Option.isSome_iff_exists.mp tracked
    rw [State.endWork_validating validating, State.disown_of_place place,
      State.releasePlace_of_lane (s := s) (t := s.setPlace l none) rfl]
    rfl
  · rw [State.endWork_validating validating, State.disown_of_none untracked,
      State.releasePlace_of_lane (s := s) (t := s.removePending l) rfl]
    rfl
  · rw [State.endWork_awaitPass awaiting, State.abandonPassage_granted passage current,
      State.releasePlace_of_lane (s.lane_sendNotice _ k l)]
    rfl
  · rw [State.endWork_awaitPass awaiting, State.abandonPassage_provisional passage,
      State.releasePlace_of_lane (s := s) (t := s.removePending l) rfl]
    rfl
  · rw [State.endWork_awaitPass awaiting, State.abandonPassage_unclaimed passage,
      State.releasePlace_of_lane (s := s) rfl]
    rfl
  · exact State.endWork_idle notValidating notAwaiting
  · rw [log]
    exact dropPending_of_first others lane pending

end Sys2Proof.Machine
end

section
/-! SUPPORT. The commands for a lane (04_lane_operation.md, sections 4.1 and 4.6 to 4.9), each taken in the lane's turn. -/

namespace Sys2Proof.Machine

/-! ### A command for a lane in its turn -/

theorem State.onLane_of_above {s : State} {n : Nat} (above : 15 < n) (run : LaneNo → Answer) :
    s.onLane n run = s.refuse .badArg := dif_neg (Nat.not_lt.mpr above)

/-- A command that names no lane of the part is refused, whichever it is. -/
theorem Command.run_of_above {d : Command} {n : Nat} (named : d.laneNamed = some n) (above : 15 < n) (s : State) :
    d.run s = s.refuse .badArg := by
  cases d <;> simp only [Command.laneNamed, Option.some.injEq, reduceCtorEq] at named <;> subst named
  all_goals
    simp only [Command.run, State.setLane, State.laneOpen, State.laneClose, State.laneReset, State.laneRelease,
      State.readLane, State.onLane_of_above above]

theorem State.onLane_val (s : State) (l : LaneNo) (run : LaneNo → Answer) : s.onLane l.val run = run l :=
  dif_pos l.isLt

section
variable {s : State} {c : MgmtCell} {rest : List MgmtCell} {d : Command} {i : Instr}

/-- A command that need not wait for its lane is carried out as its row comes. -/
theorem exec_laneCommand {n : Nat} (able : s.able) (head : s.headCommand c rest) (command : c.command = d)
    (row : ∀ pins access, d.row pins access = i) (named : d.laneNamed = some n) (turn : s.turnWaits n = false) :
    exec i s = .next ((d.run (s.commandsLeft rest)).sent c) := by
  subst command
  rw [← row ⟨0, 0, 0, 0, false⟩ .wholeCell, exec_row_onLane able.1 head named, State.executeOnLane, turn,
    if_neg Bool.false_ne_true, State.execute_of_able able]

theorem exec_laneCommand_above {n : Nat} (able : s.able) (head : s.headCommand c rest) (command : c.command = d)
    (row : ∀ pins access, d.row pins access = i) (named : d.laneNamed = some n) (above : 15 < n) :
    exec i s = .next (s.replied rest c .badArg .nothing) := by
  rw [exec_laneCommand able head command row named (State.turnWaits_of_no_lane above), Command.run_of_above named above,
    State.refuse_sent, State.replied]

theorem exec_laneCommand_turn {l : LaneNo} (able : s.able) (head : s.headCommand c rest) (command : c.command = d)
    (row : ∀ pins access, d.row pins access = i) (named : d.laneNamed = some l.val) (turn : s.turnOf l) :
    exec i s = .next ((d.run (s.commandsLeft rest)).sent c) :=
  exec_laneCommand able head command row named (State.turnWaits_of_turn turn)

end

/-! ### LANE_OPEN and LANE_CLOSE -/

section
variable {s : State} {l : LaneNo}

theorem State.laneOpen_unfitted (unfitted : (s.lane l).config.fitted = false) :
    s.laneOpen l.val = s.refuse .laneState := by
  rw [State.laneOpen, State.onLane_val, unfitted]
  rfl

theorem State.laneOpen_noClock (fitted : (s.lane l).config.fitted = true) (unset : s.mgu.clock = none) :
    s.laneOpen l.val = s.refuse .noClock := by
  rw [State.laneOpen, State.onLane_val, fitted, unset]
  rfl

/-- R90: the intent is set, and a CLOSED lane enters IDLE. -/
theorem State.laneOpen_taken (fitted : (s.lane l).config.fitted = true) (clock : s.mgu.clock ≠ none) :
    s.laneOpen l.val =
      (if (s.lane l).state = .closed then
        s.atLane l (fun ln => { ln with openIntent := true, state := .idle }) id fun x => { x with cancelSet := false }
      else s.modLane l fun ln => { ln with openIntent := true }).accept .nothing := by
  rw [State.laneOpen, State.onLane_val, fitted, Option.isNone_eq_false_iff.mpr (Option.isSome_iff_ne_none.mpr clock)]
  by_cases closed : (s.lane l).state = .closed
  · simp only [State.modLane_eq_atLane, State.enter_eq_atLane, State.atLane_atLane, Bool.not_true, Bool.false_eq_true,
      if_false, if_pos closed]
    rfl
  · simp only [Bool.not_true, Bool.false_eq_true, if_false, if_neg closed]

/-- R91: the intent is cleared, and an IDLE lane enters CLOSED. -/
theorem State.laneClose_val (s : State) (l : LaneNo) :
    s.laneClose l.val =
      (if (s.lane l).state = .idle then
        s.atLane l (fun ln => { ln with openIntent := false, state := .closed }) id
          fun x => { x with cancelSet := false, indication := .dark, shownSince := s.timebase }
      else s.modLane l fun ln => { ln with openIntent := false }).accept .nothing := by
  rw [State.laneClose, State.onLane_val]
  by_cases idle : (s.lane l).state = .idle
  · simp only [State.modLane_eq_atLane, State.enter_eq_atLane, State.indicate_eq_atLane, State.atLane_atLane, if_pos idle]
    rfl
  · simp only [if_neg idle]

end

/-- Settles O33: each command by the lane it names, and by the tests and states of R90 and R91. -/
theorem laneOpenAndClose : Obligations.LaneOpenAndClose := by
  intro s c rest able head
  refine ⟨fun n above => ⟨fun command => ?_, fun command => ?_⟩, fun l turn => ⟨fun command => ?_, fun command => ?_⟩⟩
  · exact exec_laneCommand_above able head command (fun _ _ => rfl) rfl above
  · exact exec_laneCommand_above able head command (fun _ _ => rfl) rfl above
  · rw [exec_laneCommand_turn able head command (fun _ _ => rfl) rfl turn, Command.run]
    refine ⟨fun unfitted => ?_, fun fitted unset => ?_, fun fitted clock closed => ?_, fun fitted clock open_ => ?_⟩
    · rw [State.laneOpen_unfitted (s := s.commandsLeft rest) unfitted, State.refuse_sent, State.replied]
    · rw [State.laneOpen_noClock (s := s.commandsLeft rest) fitted unset, State.refuse_sent, State.replied]
    · rw [State.laneOpen_taken (s := s.commandsLeft rest) fitted clock,
        if_pos (show ((s.commandsLeft rest).lane l).state = .closed from closed), State.accept_sent]
    · rw [State.laneOpen_taken (s := s.commandsLeft rest) fitted clock,
        if_neg (show ¬((s.commandsLeft rest).lane l).state = .closed from open_), State.accept_sent]
  · rw [exec_laneCommand_turn able head command (fun _ _ => rfl) rfl turn, Command.run, State.laneClose_val]
    refine ⟨fun idle => ?_, fun busy => ?_⟩
    · rw [if_pos (show ((s.commandsLeft rest).lane l).state = .idle from idle), State.accept_sent]
      rfl
    · rw [if_neg (show ¬((s.commandsLeft rest).lane l).state = .idle from busy), State.accept_sent]

/-! ### LANE_RESET -/

/-- A delivery under way to a lane is not wanted back (R121). -/
def State.withoutDelivery (s : State) (l : LaneNo) : State :=
  { s with lbp := { s.lbp with underWay := s.lbp.underWay.map (Transaction.discardFor l) } }

theorem State.withoutDelivery_atLane (s : State) (l m : LaneNo) (f : Lane → Lane) (g : Head → Head)
    (h : Lines → Lines) : (s.withoutDelivery m).atLane l f g h = (s.atLane l f g h).withoutDelivery m := rfl

theorem State.emptyPlace_eq (s : State) (l : LaneNo) :
    s.emptyPlace l = (s.atLane l id (fun h => { h with waiting := none }) id).withoutDelivery l := by
  rw [← State.modHead_eq_atLane]
  rfl

/-- Before the presentation and the passage are cleared, the ending of work leaves the lane's record as it is. -/
theorem State.lane_endWork (s : State) (l m : LaneNo) :
    (s.endWork l).lane m = if m = l then { s.lane l with current := none, passage := none } else s.lane m := by
  have cleared (t : State) (lanes : t.lanes = s.lanes) :
      (t.clearPresentation l).lane m =
        if m = l then { s.lane l with current := none, passage := none } else s.lane m := by
    rw [State.clearPresentation_eq_atLane, State.lane_atLane, State.lane_congr lanes l, State.lane_congr lanes m]
  cases state : (s.lane l).state
  case validating =>
    rw [State.endWork_validating state]
    exact cleared _ (by simp)
  case awaitPass =>
    rw [State.endWork_awaitPass state]
    exact cleared _ (by simp)
  all_goals
    rw [State.endWork_idle (by simp [state]) (by simp [state])]
    exact cleared s rfl

theorem State.lane_endWork_same (s : State) (l : LaneNo) :
    (s.endWork l).lane l = { s.lane l with current := none, passage := none } := by simp [State.lane_endWork]

/-- R93, R118, R122: what the reset clears, and the lines it leaves, as one change at the lane. -/
theorem State.resetLane_eq (s : State) (l : LaneNo) :
    s.resetLane l =
      ((s.endWork l).atLane l
        (fun ln =>
          { ln with
            echo := none, openIntent := false, state := if (s.lane l).state = .released then .released else .closed
            events := ln.events.filter fun e => !e.isPresentation })
        (fun h => { h with waiting := none, inHand := false })
        fun x =>
          if (s.lane l).state = .released then x
          else
            { x with
              arm := .locked, latch := .disarmed, passTimer := none, cancelSet := false, indication := .dark
              shownSince := s.timebase }).withoutDelivery l := by
  have timebase : (s.endWork l).timebase = s.timebase := by simp
  have state : ((s.endWork l).lane l).state = (s.lane l).state := by rw [State.lane_endWork_same]
  unfold State.resetLane
  split <;> rename_i released
  · simp only [State.emptyPlace_eq, State.dropPresentation_eq_atLane, State.modLane_eq_atLane, State.atLane_atLane,
      State.withoutDelivery_atLane]
    congr 1
    refine State.atLane_congr ?_ rfl rfl
    simp [state, released]
  · simp only [State.emptyPlace_eq, State.dropPresentation_eq_atLane, State.modLane_eq_atLane, State.atLane_atLane,
      State.withoutDelivery_atLane, State.lockArm_eq_atLane, State.enter_eq_atLane, State.indicate_eq_atLane]
    congr 1
    refine State.atLane_congr rfl rfl ?_
    simp only [Function.comp_apply, LaneState.takesCancel, Bool.false_eq_true, if_false, id]
    rw [← timebase]
    rfl

theorem State.laneReset_val (s : State) (l : LaneNo) : s.laneReset l.val = (s.resetLane l).accept .nothing :=
  s.onLane_val l _

theorem State.endWork_underWay (s : State) (l : LaneNo) : (s.endWork l).lbp = s.lbp := by simp

/-- Settles O34: the reset as one change at the lane, RELEASED apart. -/
theorem laneResetCloses : Obligations.LaneResetCloses := by
  intro s c rest able head
  refine ⟨fun n above command =>
    exec_laneCommand_above able head command (fun _ _ => rfl) rfl above,
    fun l turn command => ?_⟩
  rw [exec_laneCommand_turn able head command (fun _ _ => rfl) rfl turn, Command.run, State.laneReset_val,
    State.accept_sent, State.resetLane_eq]
  have underWay : ((s.commandsLeft rest).endWork l).lbp.underWay = s.lbp.underWay := by
    rw [State.endWork_underWay]
    rfl
  refine ⟨fun released => ?_, fun others => ?_⟩
  · have stays : ((s.commandsLeft rest).lane l).state = .released := released
    simp only [stays, if_true, State.withoutDelivery, State.atLane_frame, underWay]
    rfl
  · have leaves : ((s.commandsLeft rest).lane l).state ≠ .released := others
    simp only [leaves, if_false, State.withoutDelivery, State.atLane_frame, underWay]
    rfl

/-! ### LANE_RELEASE and READ_LANE -/

section
variable {s : State} {l : LaneNo}

theorem State.laneRelease_notIdle (state : (s.lane l).state ≠ .idle) : s.laneRelease l.val = s.refuse .laneState := by
  rw [State.laneRelease, State.onLane_val, if_pos state]

theorem State.laneRelease_exit (state : (s.lane l).state = .idle) (direction : (s.lane l).config.direction = .exit) :
    s.laneRelease l.val = (s.beginPassage l ⟨.manual, none, none⟩ .grant).accept .nothing := by
  rw [State.laneRelease, State.onLane_val, if_neg (not_not.mpr state), if_pos direction]

/-- R157: the zone has room while its count and its reservations are below its quota. -/
theorem Zone.hasRoom_iff (z : Zone) : z.hasRoom = true ↔ z.count + z.reserved < z.quota := decide_eq_true_iff

theorem State.laneRelease_entry (state : (s.lane l).state = .idle) (direction : (s.lane l).config.direction = .entry) :
    s.laneRelease l.val =
      if ((s.serveZoneAll l).zone (s.lane l).config.zone).hasRoom then
        (((s.serveZoneAll l).reserve l).beginPassage l ⟨.manual, none, none⟩ .grant).accept .nothing
      else (s.serveZoneAll l).refuse .zoneFull := by
  rw [State.laneRelease, State.onLane_val, if_neg (not_not.mpr state), if_neg (by simp [direction])]

end

/-- The ZCU's service of a lane's requests touches no block but its own. -/
@[simp] theorem State.serveZoneAll_frame (s : State) (l : LaneNo) :
    (s.serveZoneAll l).pending = s.pending ∧ (s.serveZoneAll l).inReset = s.inReset ∧
      (s.serveZoneAll l).timebase = s.timebase ∧ (s.serveZoneAll l).freeCount = s.freeCount ∧
      (s.serveZoneAll l).adt = s.adt ∧ (s.serveZoneAll l).hdu = s.hdu ∧ (s.serveZoneAll l).clt = s.clt ∧
      (s.serveZoneAll l).lanes = s.lanes ∧ (s.serveZoneAll l).lbp = s.lbp ∧ (s.serveZoneAll l).tlu = s.tlu ∧
      (s.serveZoneAll l).grp = s.grp ∧ (s.serveZoneAll l).mgu = s.mgu := by
  unfold State.serveZoneAll
  generalize s.zcu.requests.filter _ = rs
  induction rs generalizing s with
  | nil => simp
  | cons r rs ih => simp [ih]

theorem State.lane_serveZoneAll (s : State) (l m : LaneNo) : (s.serveZoneAll l).lane m = s.lane m :=
  State.lane_congr (by simp) m

/-- Settles O35: by the lane's state and direction, and on an ENTRY lane by the room of its zone. -/
theorem laneReleaseBeginsManualPassage : Obligations.LaneReleaseBeginsManualPassage := by
  intro s c rest able head
  refine ⟨fun n above command =>
    exec_laneCommand_above able head command (fun _ _ => rfl) rfl above,
    fun l turn command => ?_⟩
  rw [exec_laneCommand_turn able head command (fun _ _ => rfl) rfl turn, Command.run]
  refine ⟨fun state => ?_, fun state direction => ?_, fun state direction room => ?_, fun state direction full => ?_⟩
  · rw [State.laneRelease_notIdle (s := s.commandsLeft rest) state, State.refuse_sent, State.replied]
  · rw [State.laneRelease_exit (s := s.commandsLeft rest) state direction, State.accept_sent]
  · have hasRoom := (Zone.hasRoom_iff _).mpr room
    rw [State.laneRelease_entry (s := s.commandsLeft rest) state direction]
    rw [if_pos (by exact hasRoom), State.accept_sent, State.reserve, State.lane_serveZoneAll]
    rfl
  · have noRoom := mt (Zone.hasRoom_iff _).mp (Nat.not_lt.mpr full)
    rw [State.laneRelease_entry (s := s.commandsLeft rest) state direction]
    rw [if_neg (by exact noRoom), State.refuse_sent]

theorem State.readLane_val (s : State) (l : LaneNo) (clear : Bool) :
    s.readLane l.val clear = (if clear then s.count l fun _ => .zero else s).accept (.lane (s.lane l).readout) :=
  s.onLane_val l _

/-- Settles O36: the lane's values as they stood, and the counters by the clear flag. -/
theorem readLaneReturnsAndClears : Obligations.ReadLaneReturnsAndClears := by
  intro s c rest clear able head
  refine ⟨fun n above command =>
    exec_laneCommand_above able head command (fun _ _ => rfl) rfl above,
    fun l turn command => ?_⟩
  rw [exec_laneCommand_turn able head command (fun _ _ => rfl) rfl turn, Command.run, State.readLane_val,
    State.accept_sent]
  refine ⟨fun kept => ?_, fun cleared => ?_⟩
  · subst kept
    rfl
  · subst cleared
    rfl

/-! ### SET_LANE -/

/-- The configuration of the fields SET_LANE carries, its windows moved into their ranges (R69). -/
def movedConfig (fitted : Bool) (direction : Byte) (zone : ZoneNo) (classes : BitVec 16) (priority : Byte)
    (pw ew sl : Nat) (policy : Byte) : LaneConfig where
  fitted := fitted
  direction := if direction = 0 then .entry else .exit
  zone := zone
  classes := classes
  priority := if priority = 0 then .normal else .high
  passWindow := max 2 (min 30 pw)
  echoWindow := min 5 ew
  staleLimit := max 1 (min 10 sl)
  policy := if policy = 0 then .refuse else .provisional

/-- A byte of at most 1 is one of the two codes. -/
theorem byte_eq_of_le_one {b : Byte} (le : b.toNat ≤ 1) : b = 0 ∨ b = 1 := by
  have cases : b.toNat = 0 ∨ b.toNat = 1 := by omega
  exact cases.imp (fun h => BitVec.eq_of_toNat_eq h) fun h => BitVec.eq_of_toNat_eq h

theorem byte_ne_of_one_lt {b : Byte} (lt : 1 < b.toNat) : b ≠ 0#8 ∧ b ≠ 1#8 := by
  constructor <;> (rintro rfl; revert lt; decide)

section
variable {b : Byte}

theorem Kind.ofCode_of_le (le : b.toNat ≤ 1) : Kind.ofCode b = some (if b = 0 then .entry else .exit) := by
  obtain rfl | rfl := byte_eq_of_le_one le <;> rfl

theorem Priority.ofCode_of_le (le : b.toNat ≤ 1) : Priority.ofCode b = some (if b = 0 then .normal else .high) := by
  obtain rfl | rfl := byte_eq_of_le_one le <;> rfl

theorem Policy.ofCode_of_le (le : b.toNat ≤ 1) : Policy.ofCode b = some (if b = 0 then .refuse else .provisional) := by
  obtain rfl | rfl := byte_eq_of_le_one le <;> rfl

theorem Kind.ofCode_of_lt (lt : 1 < b.toNat) : Kind.ofCode b = none := by
  simp [Kind.ofCode, byte_ne_of_one_lt lt]

theorem Priority.ofCode_of_lt (lt : 1 < b.toNat) : Priority.ofCode b = none := by
  simp [Priority.ofCode, byte_ne_of_one_lt lt]

theorem Policy.ofCode_of_lt (lt : 1 < b.toNat) : Policy.ofCode b = none := by
  simp [Policy.ofCode, byte_ne_of_one_lt lt]

end

section
variable {direction priority policy : Byte}

theorem configOf_val (fitted : Bool) (z : ZoneNo) (classes : BitVec 16) (pw ew sl : Nat) (dir : direction.toNat ≤ 1)
    (prio : priority.toNat ≤ 1) (pol : policy.toNat ≤ 1) :
    configOf fitted direction z.val classes priority pw ew sl policy =
      some (movedConfig fitted direction z classes priority pw ew sl policy) := by
  simp only [configOf, z.isLt, dif_pos, Kind.ofCode_of_le dir, Priority.ofCode_of_le prio, Policy.ofCode_of_le pol,
    movedConfig, clamp, Nat.zero_max]

/-- R69: a zone or a code that names nothing. -/
theorem configOf_eq_none {zone : Nat} (fitted : Bool) (classes : BitVec 16) (pw ew sl : Nat)
    (bad : 7 < zone ∨ 1 < direction.toNat ∨ 1 < priority.toNat ∨ 1 < policy.toNat) :
    configOf fitted direction zone classes priority pw ew sl policy = none := by
  unfold configOf
  split
  next lt =>
    obtain zone_bad | dir | prio | pol := bad
    · omega
    · simp [Kind.ofCode_of_lt dir]
    · simp [Priority.ofCode_of_lt prio]
    · simp [Policy.ofCode_of_lt pol]
  next => rfl

end

/-- R69: OK_CLAMPED when a window was moved. -/
theorem windows_clamped_iff (pw ew sl : Nat) :
    (clamped 2 30 pw || clamped 0 5 ew || clamped 1 10 sl) = false ↔
      2 ≤ pw ∧ pw ≤ 30 ∧ ew ≤ 5 ∧ 1 ≤ sl ∧ sl ≤ 10 := by
  simp only [clamped, clamp, Bool.or_eq_false_iff, bne_eq_false_iff_eq]
  omega

theorem windows_status (pw ew sl : Nat) :
    (if clamped 2 30 pw || clamped 0 5 ew || clamped 1 10 sl then Status.okClamped else .ok) =
      if 2 ≤ pw ∧ pw ≤ 30 ∧ ew ≤ 5 ∧ 1 ≤ sl ∧ sl ≤ 10 then .ok else .okClamped := by
  by_cases within : 2 ≤ pw ∧ pw ≤ 30 ∧ ew ≤ 5 ∧ 1 ≤ sl ∧ sl ≤ 10
  · rw [if_pos within, (windows_clamped_iff pw ew sl).mpr within, if_neg Bool.false_ne_true]
  · rw [if_neg within, if_pos (Bool.not_eq_false _ ▸ mt (windows_clamped_iff pw ew sl).mp within)]

/-- R118, R122, R123: the port's items of a lane that loses its head, with its configuration. -/
theorem State.configure_unfitting {s : State} {l : LaneNo} {c : LaneConfig} (had : (s.lane l).config.fitted = true)
    (unfitted : c.fitted = false) :
    s.configure l c =
      (s.atLane l (fun ln => { ln with config := c, events := ln.events.filter fun e => !e.isPresentation })
        (fun _ => .reset) id).withoutDelivery l := by
  simp only [State.configure, had, unfitted, Bool.not_false, Bool.and_self, if_true, State.unfit, State.emptyPlace_eq,
    State.dropPresentation_eq_atLane, State.modLane_eq_atLane, State.modHead_eq_atLane, State.withoutDelivery_atLane,
    State.atLane_atLane]
  rfl

theorem State.configure_keeping {s : State} {l : LaneNo} {c : LaneConfig}
    (keeps : (s.lane l).config.fitted = false ∨ c.fitted = true) :
    s.configure l c = s.modLane l fun ln => { ln with config := c } := by
  have not_losing : ((s.lane l).config.fitted && !c.fitted) = false := by
    obtain never | fitted := keeps
    · simp [never]
    · simp [fitted]
  simp only [State.configure, not_losing, Bool.false_eq_true, if_false]

section
variable {s : State} {l : LaneNo} {z : ZoneNo} {fitted direction priority policy : Byte} {classes : BitVec 16}
  {pw ew sl : Nat}

theorem State.setLane_notClosed (dir : direction.toNat ≤ 1) (prio : priority.toNat ≤ 1) (pol : policy.toNat ≤ 1)
    (state : (s.lane l).state ≠ .closed) :
    s.setLane l.val fitted direction z.val classes priority pw ew sl policy = s.refuse .laneState := by
  simp only [State.setLane, State.onLane_val, configOf_val _ z classes pw ew sl dir prio pol, if_pos state]

theorem State.setLane_closed (dir : direction.toNat ≤ 1) (prio : priority.toNat ≤ 1) (pol : policy.toNat ≤ 1)
    (state : (s.lane l).state = .closed) :
    s.setLane l.val fitted direction z.val classes priority pw ew sl policy =
      ⟨(s.fittedOf fitted).2.configure l
          (movedConfig (s.fittedOf fitted).1 direction z classes priority pw ew sl policy),
        if 2 ≤ pw ∧ pw ≤ 30 ∧ ew ≤ 5 ∧ 1 ≤ sl ∧ sl ≤ 10 then .ok else .okClamped, .nothing, []⟩ := by
  simp only [State.setLane, State.onLane_val, configOf_val _ z classes pw ew sl dir prio pol,
    if_neg (not_not.mpr state), windows_status]

end

theorem State.setLane_badArg {s : State} {lane zone : Nat} {direction priority policy : Byte} (fitted : Byte)
    (classes : BitVec 16) (pw ew sl : Nat)
    (bad : 15 < lane ∨ 7 < zone ∨ 1 < direction.toNat ∨ 1 < priority.toNat ∨ 1 < policy.toNat) :
    s.setLane lane fitted direction zone classes priority pw ew sl policy = s.refuse .badArg := by
  by_cases above : 15 < lane
  · exact State.onLane_of_above above _
  · have named := bad.resolve_left above
    have lane_eq := s.onLane_val ⟨lane, Nat.not_lt.mp above |> Nat.lt_succ_of_le⟩
    simp only [State.setLane]
    rw [lane_eq]
    simp only [configOf_eq_none _ classes pw ew sl named]

/-- Settles O32: refused by its arguments or by the lane's state, else by the fitted byte and by whether the lane loses
its head. -/
theorem setLaneConfigures : Obligations.SetLaneConfigures := by
  intro s c rest lane fitted direction zone classes priority pw ew sl policy able head command turn
  have waits : s.turnWaits lane = false := by
    by_cases lt : lane < 16
    · exact State.turnWaits_of_turn (l := ⟨lane, lt⟩) (turn ⟨lane, lt⟩ rfl)
    · exact State.turnWaits_of_no_lane (by omega)
  rw [exec_laneCommand able head command (fun _ _ => rfl) rfl waits, Command.run]
  refine ⟨fun bad => ?_, fun l z lane_eq zone_eq dir prio pol => ?_⟩
  · rw [State.setLane_badArg fitted classes pw ew sl bad, State.refuse_sent, State.replied]
  subst lane_eq zone_eq
  have taken (state : (s.lane l).state = .closed) :=
    State.setLane_closed (s := s.commandsLeft rest) (fitted := fitted) (classes := classes) (pw := pw) (ew := ew)
      (sl := sl) (z := z) dir prio pol state
  refine ⟨fun state => ?_, fun state one => ?_, fun state zero never => ?_, fun state zero had => ?_,
    fun state notZero notOne => ?_⟩
  · rw [State.setLane_notClosed (s := s.commandsLeft rest) dir prio pol state, State.refuse_sent, State.replied]
  · subst one
    rw [taken state]
    simp only [State.fittedOf, Answer.sent]
    rw [State.configure_keeping (by right; rfl)]
    rfl
  · subst zero
    rw [taken state]
    simp only [State.fittedOf, Answer.sent]
    rw [State.configure_keeping (by left; exact never)]
    rfl
  · subst zero
    rw [taken state]
    simp only [State.fittedOf, Answer.sent]
    rw [State.configure_unfitting (by exact had) (by rfl)]
    rfl
  · rw [taken state]
    have drawn : (s.commandsLeft rest).fittedOf fitted =
        ((s.commandsLeft rest).free 2 == 1, (s.commandsLeft rest).freeUsed) := by
      rw [State.fittedOf, if_neg (by simpa using notZero), if_neg (by simpa using notOne)]
    rw [drawn]
    cases value : (s.commandsLeft rest).free 2 == 1 with
    | true =>
      left
      simp only [Answer.sent]
      rw [State.configure_keeping (by right; rfl)]
      rfl
    | false =>
      right
      simp only [Answer.sent]
      cases had : (s.lane l).config.fitted with
      | true =>
        rw [State.configure_unfitting (by exact had) (by rfl)]
        rfl
      | false =>
        rw [State.configure_keeping (by left; exact had)]
        rfl

end Sys2Proof.Machine
end

section
/-! SUPPORT. What a lane takes (04_lane_operation.md): its next event, the rotation, the results of a claim, the events
that end its work, and the claim a presentation issues. -/

namespace Sys2Proof.Machine

/-! ### The next event of a lane -/

theorem takeEvent_of_next {before after : List LaneEvent} {e : LaneEvent}
    (overtaken : ∀ x ∈ before, x.isPresentation = true) (next : e.isPresentation = false) :
    takeEvent (before ++ e :: after) = some (e, before ++ after) := by
  induction before with
  | nil => simp [takeEvent, next]
  | cons x before ih =>
    rw [List.cons_append, takeEvent, if_pos (overtaken x (by simp)), ih fun y hy => overtaken y (by simp [hy])]
    rfl

section
variable {s : State} {l : LaneNo} {before after : List LaneEvent} {e : LaneEvent}

theorem State.nextIs.takeEvent_eq (next : s.nextIs l before e after) :
    takeEvent (s.lane l).events = some (e, before ++ after) := by
  obtain ⟨events, overtaken, notPresentation⟩ := next
  rw [events, takeEvent_of_next overtaken notPresentation]

theorem State.eventTaken_of_nextIs (next : s.nextIs l before e after) :
    s.eventTaken l = s.eventGone l before after := by
  rw [State.eventTaken, State.eventGone, State.modLane_eq_atLane, State.modLane_eq_atLane]
  refine State.atLane_congr ?_ rfl rfl
  simp [next.takeEvent_eq]

/-- A row that names the event its lane takes next acts on the part with that event taken (R72; log entry 3). -/
theorem State.takeIf_of_nextIs (next : s.nextIs l before e after) {named : LaneEvent → Bool} (due : named e = true)
    (act : State → LaneEvent → State) : s.takeIf l named act = act (s.eventGone l before after) e := by
  simp only [State.takeIf, State.nextEvent, next.takeEvent_eq, Option.map_some, due, if_true,
    State.eventTaken_of_nextIs next]

@[simp] theorem State.lane_eventGone_same (s : State) (l : LaneNo) (before after : List LaneEvent) :
    (s.eventGone l before after).lane l = { s.lane l with events := before ++ after } := State.lane_modLane_same s l _

end

/-! ### A rotation taken -/

theorem State.report_atLane (s : State) (r : Report) (l : LaneNo) (f : Lane → Lane) (g : Head → Head)
    (h : Lines → Lines) : (s.atLane l f g h).report r = (s.report r).atLane l f g h := rfl

/-- R88. -/
theorem State.forced_eq (s : State) (l : LaneNo) :
    s.forced l =
      (s.modLane l fun ln => { ln with counters := { ln.counters with forced := bump ln.counters.forced } }).report
        (.forced l (s.lane l).state s.mgu.clock) := rfl

/-- An arm locked as the lane settles (R70, R71). -/
theorem State.lockArm_settle_eq (s : State) (l : LaneNo) (i : Indication) :
    (s.lockArm l).settle l i = s.atLane l (fun ln => { ln with state := ln.settled }) id
      fun x =>
        { x with
          arm := .locked, latch := .disarmed, passTimer := none, cancelSet := false, indication := i
          shownSince := s.timebase } := by
  rw [State.lockArm_eq_atLane, State.settle_eq_atLane, State.atLane_atLane]
  refine State.atLane_congr ?_ rfl rfl
  simp

/-- The last step of R85: the passage cleared, the arm locked, the lane settled and dark. -/
theorem State.passageClosed_eq (s : State) (l : LaneNo) (f : LaneCounters → LaneCounters) (r : Report) :
    ((((s.count l f).report r).clearPresentation l).lockArm l).settle l .dark =
      (s.report r).atLane l
        (fun ln =>
          { ln with
            counters := f ln.counters, current := none, passage := none
            state := if ln.openIntent then .idle else .closed })
        id
        fun x =>
          { x with
            arm := .locked, latch := .disarmed, passTimer := none, cancelSet := false, indication := .dark
            shownSince := s.timebase } := by
  rw [State.lockArm_settle_eq, State.clearPresentation_eq_atLane, State.count_eq_atLane, State.report_atLane,
    State.atLane_atLane, State.atLane_atLane]
  exact State.atLane_congr rfl rfl (by simp)

/-- What the origin of a passage does before its report: a notice to the home, the record made DONE, or nothing (R85,
steps 1 and 2). -/
def State.passageTold (s : State) (l : LaneNo) (p : Passage) (time : Nat) : State :=
  (s.sendPassed l p time).completeRecord l p time

theorem State.passageTold_lanes (s : State) (l : LaneNo) (p : Passage) (time : Nat) :
    (s.passageTold l p time).lanes = s.lanes ∧ (s.passageTold l p time).timebase = s.timebase := by
  unfold State.passageTold State.completeRecord State.sendPassed
  constructor <;> (repeat' split) <;> simp

section
variable {s : State} {l : LaneNo} {p : Passage} {t : Nat}

/-- The passage's report, when it has one (R85, step 5). -/
def Lane.passageReport (ln : Lane) (l : LaneNo) (p : Passage) (t : Nat) : Option Report :=
  match p.origin with
  | .provisional => ln.currentKey.map fun k => .provisional l ln.config.direction ln.config.zone k t
  | .granted | .unchecked | .manual =>
    some (.passage l ln.config.direction ln.config.zone p.origin ln.currentKey p.tag t)

theorem Lane.passageReport_provisional {ln : Lane} {k : Key} (origin : p.origin = .provisional)
    (key : ln.currentKey = some k) :
    ln.passageReport l p t = some (.provisional l ln.config.direction ln.config.zone k t) := by
  simp only [Lane.passageReport, origin, key, Option.map_some]

theorem Lane.passageReport_other {ln : Lane} (origin : p.origin ≠ .provisional) :
    ln.passageReport l p t =
      some (.passage l ln.config.direction ln.config.zone p.origin ln.currentKey p.tag t) := by
  unfold Lane.passageReport
  cases state : p.origin
  case provisional => exact absurd state origin
  all_goals rfl

theorem State.reportPassage_eq {r : Report} (report : (s.lane l).passageReport l p t = some r) :
    s.reportPassage l p t = s.report r := by
  unfold Lane.passageReport at report
  unfold State.reportPassage
  cases origin : p.origin
  case provisional =>
    simp only [origin, Option.map_eq_some_iff] at report
    obtain ⟨k, key, rfl⟩ := report
    simp only [key]
  all_goals
    simp only [origin, Option.some.injEq] at report
    simp only [report]

/-- The six steps of R85, in their order. -/
theorem State.completePassage_eq {r : Report} (clock : s.mgu.clock = some t)
    (report : (s.lane l).passageReport l p t = some r) :
    s.completePassage l p =
      (((s.passageTold l p t).withRequests
          [⟨l, (s.lane l).config.zone, if (s.lane l).config.direction = .entry then .convert else .exit⟩]).report
        r).atLane l
        (fun ln =>
          { ln with
            counters := ln.counters.passed p.origin, current := none, passage := none
            state := if ln.openIntent then .idle else .closed })
        id
        fun x =>
          { x with
            arm := .locked, latch := .disarmed, passTimer := none, cancelSet := false, indication := .dark
            shownSince := s.timebase } := by
  obtain ⟨lanes, timebase⟩ := s.passageTold_lanes l p t
  have lane (m : LaneNo) : (s.passageTold l p t).lane m = s.lane m := State.lane_congr lanes m
  let told := (s.passageTold l p t).withRequests
    [⟨l, (s.lane l).config.zone, if (s.lane l).config.direction = .entry then .convert else .exit⟩]
  have counted : ((told.count l fun c => c.passed p.origin).lane l).passageReport l p t = some r := by
    rw [State.count_eq_atLane, State.lane_atLane_same, ← report, show told.lane l = s.lane l from lane l]
    rfl
  have steps : s.completePassage l p =
      ((((told.count l fun c => c.passed p.origin).reportPassage l p t).clearPresentation l).lockArm l).settle l
        .dark := by
    simp only [State.completePassage, State.second_of_clock clock, State.askZone_eq_withRequests, told,
      State.passageTold]
    rw [show ((s.sendPassed l p t).completeRecord l p t).lane l = s.lane l from lane l]
  rw [steps, State.reportPassage_eq counted, State.passageClosed_eq,
    show told.timebase = s.timebase from timebase]

end

theorem markDone_of_first {l time : Nat} {before after : List LogRecord} {r : LogRecord}
    (others : ∀ x ∈ before, x.lane ≠ l ∨ x.state ≠ .pending) (lane : r.lane = l) (pending : r.state = .pending) :
    markDone l time (before ++ r :: after) = before ++ { r with state := .done, time := time } :: after := by
  induction before with
  | nil => simp [markDone, lane, pending]
  | cons x before ih =>
    have skipped : ¬(x.lane = l ∧ x.state = .pending) := by
      rw [not_and_or]
      exact others x (by simp)
    rw [List.cons_append, markDone, if_neg skipped, ih fun y hy => others y (by simp [hy]), List.cons_append]

section
variable {s : State} {l : LaneNo} {p : Passage} {t : Nat}

theorem State.passageTold_granted {tag : Tag} {k : Key} (origin : p.origin = .granted) (tagged : p.tag = some tag)
    (key : (s.lane l).currentKey = some k) :
    s.passageTold l p t = s.sendNotice (.passed tag k (s.lane l).config.direction t) k := by
  simp [State.passageTold, State.sendPassed, State.completeRecord, origin, tagged, key]

theorem State.passageTold_provisional (origin : p.origin = .provisional) :
    s.passageTold l p t = s.setLog (markDone l t s.clt.log) := by
  simp [State.passageTold, State.sendPassed, State.completeRecord, origin]

theorem State.passageTold_unclaimed (origin : p.origin = .unchecked ∨ p.origin = .manual) :
    s.passageTold l p t = s := by
  obtain unchecked | manual := origin
  · simp [State.passageTold, State.sendPassed, State.completeRecord, unchecked]
  · simp [State.passageTold, State.sendPassed, State.completeRecord, manual]

theorem State.takeRotation_released (latched : Bool) (state : (s.lane l).state = .released) :
    s.takeRotation l latched = s.count l fun c => { c with free := bump c.free } := by
  simp only [State.takeRotation, state]

theorem State.takeRotation_forced {latched : Bool} (notReleased : (s.lane l).state ≠ .released)
    (unlatched : (s.lane l).state ≠ .awaitPass ∨ latched = false) : s.takeRotation l latched = s.forced l := by
  cases state : (s.lane l).state
  case released => exact absurd state notReleased
  case awaitPass =>
    obtain rfl := unlatched.resolve_left (not_not.mpr state)
    simp [State.takeRotation, state]
  all_goals simp [State.takeRotation, state]

theorem State.takeRotation_passage (state : (s.lane l).state = .awaitPass) (passage : (s.lane l).passage = some p) :
    s.takeRotation l true = s.completePassage l p := by
  simp [State.takeRotation, state, passage]

theorem exec_rotation {before after : List LaneEvent} {latched : Bool} (live : s.live)
    (next : s.nextIs l before (.rotation latched) after) :
    exec (.rotation l) s = .next ((s.eventGone l before after).takeRotation l latched) := by
  simp only [exec, execRotation, whenRunning_of_live live,
    State.takeIf_of_nextIs next (named := LaneEvent.isRotation) rfl]

end

/-- Settles O55: by the lane's state, and in AWAIT_PASS by the origin of the passage. -/
theorem rotationsTaken : Obligations.RotationsTaken := by
  refine ⟨fun s l latched before after live next => ?_, fun l time before after r others lane pending =>
    markDone_of_first others lane pending⟩
  rw [exec_rotation live next]
  refine ⟨fun released => ?_, fun notReleased unlatched => ?_, fun p t awaiting latch passage clock => ?_⟩
  · rw [State.takeRotation_released latched (by simpa using released)]
    rfl
  · rw [State.takeRotation_forced (by simpa using notReleased) (by simpa using unlatched), State.forced_eq,
      State.lane_eventGone_same]
    rfl
  · subst latch
    have clock_left : (s.eventGone l before after).mgu.clock = some t := clock
    rw [State.takeRotation_passage (by simpa using awaiting) (by simpa using passage)]
    refine ⟨fun tag k time origin tagged current => ?_, fun k time origin current => ?_, fun origin => ?_,
      fun origin => ?_⟩
    · have key : ((s.eventGone l before after).lane l).currentKey = some k := by simp [Lane.currentKey, current]
      rw [State.completePassage_eq clock_left (Lane.passageReport_other (by simp [origin])),
        State.passageTold_granted origin tagged key, key, origin, tagged, State.lane_eventGone_same]
      rfl
    · have key : ((s.eventGone l before after).lane l).currentKey = some k := by simp [Lane.currentKey, current]
      rw [State.completePassage_eq clock_left (Lane.passageReport_provisional origin key),
        State.passageTold_provisional origin, origin, State.lane_eventGone_same]
      rfl
    · rw [State.completePassage_eq clock_left (Lane.passageReport_other (by simp [origin])),
        State.passageTold_unclaimed (.inl origin), origin, State.lane_eventGone_same]
      rfl
    · rw [State.completePassage_eq clock_left (Lane.passageReport_other (by simp [origin])),
        State.passageTold_unclaimed (.inr origin), origin, State.lane_eventGone_same]
      rfl

end Sys2Proof.Machine
end

section
/-! SUPPORT. The events that end a lane's work, the results of its claim, and the claim a presentation issues
(04_lane_operation.md). -/

namespace Sys2Proof.Machine

/-! ### Ending work with a line changed -/

section
variable (s : State) (l : LaneNo) (h : Lines → Lines)

theorem State.modLine_offerIntake (e : Intake) : (s.modLine l h).offerIntake e = (s.offerIntake e).modLine l h := by
  unfold State.offerIntake
  split
  · have unchanged : (s.modLine l h).hdu = s.hdu := rfl
    rw [unchanged]
    split
    · rfl
    · unfold State.deliverVerdict
      have straps : (s.modLine l h).grp = s.grp := rfl
      rw [straps]
      split <;> rfl
  · rfl

theorem State.modLine_sendNotice (e : Intake) (k : Key) :
    (s.modLine l h).sendNotice e k = (s.sendNotice e k).modLine l h := by
  by_cases home : k.value % s.grp.size = s.grp.position
  · rw [State.sendNotice_atHome home, State.sendNotice_atHome (by exact home), State.modLine_offerIntake]
  · rw [State.sendNotice_away home, State.sendNotice_away (by exact home)]
    rfl

theorem State.modLine_disown : (s.modLine l h).disown l = (s.disown l).modLine l h := by
  cases place : s.place l with
  | none => rw [State.disown_of_none place, State.disown_of_none (by exact place)]; rfl
  | some e => rw [State.disown_of_place place, State.disown_of_place (e := e) (by exact place)]; rfl

theorem State.modLine_releasePlace : (s.modLine l h).releasePlace l = (s.releasePlace l).modLine l h := by
  rw [State.releasePlace_eq_withRequests, State.releasePlace_eq_withRequests]
  rfl

theorem State.modLine_abandonPassage : (s.modLine l h).abandonPassage l = (s.abandonPassage l).modLine l h := by
  have lane : (s.modLine l h).lane l = s.lane l := rfl
  unfold State.abandonPassage
  simp only [lane]
  split
  · split
    · rw [State.modLine_sendNotice, State.modLine_releasePlace]
    · rw [State.modLine_releasePlace]
  · rw [← State.modLine_releasePlace]; rfl
  · rw [State.modLine_releasePlace]

end

/-! ### The events that end work -/

section
variable {s : State} {l : LaneNo}

/-- A lane that settles out of AWAIT_PASS, its work ended (R71, R86). -/
theorem State.takeExpiry_eq (s : State) (l : LaneNo) :
    s.takeExpiry l =
      if (s.lane l).state = .awaitPass then
        (s.endWork l).atLane l (fun ln => { ln with state := (s.lane l).settled }) id fun x =>
          { x with
            arm := .locked, latch := .disarmed, passTimer := none, cancelSet := false, indication := .dark
            shownSince := s.timebase }
      else s := by
  unfold State.takeExpiry
  by_cases state : (s.lane l).state = .awaitPass
  · rw [if_pos state, if_pos state, ← State.endWork_awaitPass state, State.lockArm_settle_eq]
    exact State.atLane_congr (by rw [State.lane_endWork_same]; rfl) rfl (by simp)
  · rw [if_neg state, if_neg state]

/-- The end of R87: CANCELLED told, the presentation cleared, the lane settled and dark. -/
theorem State.cancelFinished_eq (s : State) (l : LaneNo) (k : Option Key) :
    ((s.dispose l .cancelled 0 k).clearPresentation l).settle l .dark =
      (s.clearPresentation l).atLane l
        (fun ln => { ln with state := ln.settled, last := some ⟨⟨.cancelled, 0, k⟩, s.mgu.clock⟩ })
        (fun h => { h with waiting := some ⟨.cancelled, 0, k⟩ })
        fun x => { x with cancelSet := false, indication := .dark, shownSince := s.timebase } := by
  simp only [State.dispose_eq_atLane, State.clearPresentation_eq_atLane, State.settle_eq_atLane, State.atLane_atLane]
  exact State.atLane_congr (by simp [Lane.settled]) rfl (by simp)

theorem State.cancelFinished_locked (s : State) (l : LaneNo) (k : Option Key) :
    (((s.lockArm l).dispose l .cancelled 0 k).clearPresentation l).settle l .dark =
      (s.clearPresentation l).atLane l
        (fun ln => { ln with state := ln.settled, last := some ⟨⟨.cancelled, 0, k⟩, s.mgu.clock⟩ })
        (fun h => { h with waiting := some ⟨.cancelled, 0, k⟩ })
        fun x =>
          { x with
            arm := .locked, latch := .disarmed, passTimer := none, cancelSet := false, indication := .dark
            shownSince := s.timebase } := by
  simp only [State.dispose_eq_atLane, State.clearPresentation_eq_atLane, State.settle_eq_atLane,
    State.lockArm_eq_atLane, State.atLane_atLane]
  exact State.atLane_congr (by simp [Lane.settled]) rfl (by simp)

theorem State.disown_releasePlace_frame (s : State) (l : LaneNo) :
    ((s.disown l).releasePlace l).mgu = s.mgu ∧ ((s.disown l).releasePlace l).timebase = s.timebase := by simp

/-- R87 in VALIDATING, the cancel latch emptied as the cancel is taken (R102). -/
theorem State.takeCancel_validating (state : (s.lane l).state = .validating) :
    (s.modLine l fun x => { x with cancelSet := false }).takeCancel l =
      (s.endWork l).atLane l
        (fun ln =>
          { ln with
            state := (s.lane l).settled, last := some ⟨⟨.cancelled, 0, (s.lane l).currentKey⟩, s.mgu.clock⟩ })
        (fun h => { h with waiting := some ⟨.cancelled, 0, (s.lane l).currentKey⟩ })
        fun x => { x with cancelSet := false, indication := .dark, shownSince := s.timebase } := by
  obtain ⟨mgu, timebase⟩ := s.disown_releasePlace_frame l
  have lane : (s.modLine l fun x => { x with cancelSet := false }).lane l = s.lane l := rfl
  simp only [State.takeCancel, lane, state]
  rw [State.modLine_disown, State.modLine_releasePlace, State.cancelFinished_eq, State.endWork_validating state]
  simp only [State.clearPresentation_eq_atLane, State.modLine_eq_atLane, State.atLane_atLane, State.atLane_frame, mgu,
    timebase]
  have kept : ((s.disown l).releasePlace l).lane l = s.lane l := State.lane_congr (by simp) l
  exact State.atLane_congr (by simp [kept, Lane.settled]) rfl (by simp)

/-- R87 in AWAIT_PASS. -/
theorem State.takeCancel_awaitPass (state : (s.lane l).state = .awaitPass) :
    (s.modLine l fun x => { x with cancelSet := false }).takeCancel l =
      (s.endWork l).atLane l
        (fun ln =>
          { ln with
            state := (s.lane l).settled, last := some ⟨⟨.cancelled, 0, (s.lane l).currentKey⟩, s.mgu.clock⟩ })
        (fun h => { h with waiting := some ⟨.cancelled, 0, (s.lane l).currentKey⟩ })
        fun x =>
          { x with
            arm := .locked, latch := .disarmed, passTimer := none, cancelSet := false, indication := .dark
            shownSince := s.timebase } := by
  have mgu : (s.abandonPassage l).mgu = s.mgu := by simp
  have timebase : (s.abandonPassage l).timebase = s.timebase := by simp
  have lane : (s.modLine l fun x => { x with cancelSet := false }).lane l = s.lane l := rfl
  simp only [State.takeCancel, lane, state]
  rw [State.modLine_abandonPassage, State.cancelFinished_locked, State.endWork_awaitPass state]
  simp only [State.clearPresentation_eq_atLane, State.modLine_eq_atLane, State.atLane_atLane, State.atLane_frame, mgu,
    timebase]
  have kept : (s.abandonPassage l).lane l = s.lane l := State.lane_congr (by simp) l
  exact State.atLane_congr (by simp [kept, Lane.settled]) rfl (by simp)

theorem State.takeCancel_ignored (notValidating : (s.lane l).state ≠ .validating)
    (notAwaiting : (s.lane l).state ≠ .awaitPass) : s.takeCancel l = s := by
  cases state : (s.lane l).state
  case validating => exact absurd state notValidating
  case awaitPass => exact absurd state notAwaiting
  all_goals simp only [State.takeCancel, state]

/-- R94. -/
theorem State.takeLinkLoss_eq (s : State) (l : LaneNo) :
    s.takeLinkLoss l =
      if (s.lane l).state = .fault ∨ (s.lane l).state = .released then s
      else
        ((s.endWork l).atLane l (fun ln => { ln with state := .fault }) id fun x =>
          { x with
            arm := .locked, latch := .disarmed, passTimer := none, cancelSet := false, indication := .dark
            shownSince := s.timebase }).report (.fault l (s.lane l).state) := by
  have ended : (((s.endWork l).lockArm l).enter l .fault).indicate l .dark =
      (s.endWork l).atLane l (fun ln => { ln with state := .fault }) id fun x =>
        { x with
          arm := .locked, latch := .disarmed, passTimer := none, cancelSet := false, indication := .dark
          shownSince := s.timebase } := by
    simp only [State.lockArm_eq_atLane, State.enter_eq_atLane, State.indicate_eq_atLane, State.atLane_atLane]
    exact State.atLane_congr rfl rfl (by simp [LaneState.takesCancel])
  rw [← ended]
  cases state : (s.lane l).state
  all_goals simp [State.takeLinkLoss, state]

/-- R94. -/
theorem State.takeLinkRegained_eq (s : State) (l : LaneNo) :
    s.takeLinkRegained l =
      if (s.lane l).state = .fault then
        (s.atLane l (fun ln => { ln with state := (s.lane l).settled }) id fun x =>
          { x with cancelSet := false, indication := .dark, shownSince := s.timebase }).report
          (.recovered l (s.lane l).settled)
      else s := by
  rw [State.takeLinkRegained, State.settle_eq_atLane]

/-- R95, R106. -/
theorem State.takeEmergency_eq (s : State) (l : LaneNo) :
    s.takeEmergency l =
      (s.endWork l).atLane l (fun ln => { ln with state := .released }) id fun x =>
        { x with
          arm := .free, latch := .disarmed, passTimer := none, cancelSet := false, indication := .released
          shownSince := s.timebase } := by
  simp only [State.takeEmergency, State.releaseArm_eq_atLane, State.enter_eq_atLane, State.indicate_eq_atLane,
    State.atLane_atLane]
  exact State.atLane_congr rfl rfl (by simp [LaneState.takesCancel])

/-- R95, R109. -/
theorem State.takeClearing_eq (s : State) (l : LaneNo) :
    s.takeClearing l =
      if (s.lane l).state = .released then
        s.atLane l (fun ln => { ln with state := ln.settled }) id fun x =>
          { x with
            arm := .locked, latch := .disarmed, passTimer := none, cancelSet := false, indication := .dark
            shownSince := s.timebase }
      else s := by
  rw [State.takeClearing, State.lockArm_settle_eq]

end

/-- Settles O56: each event by what its row makes of the part with the event taken. -/
theorem eventsThatEndWork : Obligations.EventsThatEndWork := by
  intro s l before after e live next
  have row (i : LaneNo → State → Host.Outcome State Fault Refusal) (named : LaneEvent → Bool)
      (act : State → LaneEvent → State) (i_eq : i l s = whenRunning s fun s => s.takeIf l named act)
      (due : named e = true) : i l s = .next (act (s.eventGone l before after) e) := by
    rw [i_eq, whenRunning_of_live live, State.takeIf_of_nextIs next due]
  refine ⟨fun event => ?_, fun event => ⟨fun state => ?_, fun state => ?_, fun notValidating notAwaiting => ?_⟩,
    fun event => ?_, fun event => ?_, fun event => ?_, fun event => ?_⟩
  · rw [exec, row execPassExpiry _ _ rfl (by simp [event]), State.takeExpiry_eq, State.lane_eventGone_same]
    rfl
  · rw [exec, row execCancel _ _ rfl (by simp [event]), State.takeCancel_validating (by simpa using state),
      State.lane_eventGone_same]
    rfl
  · rw [exec, row execCancel _ _ rfl (by simp [event]), State.takeCancel_awaitPass (by simpa using state),
      State.lane_eventGone_same]
    rfl
  · rw [exec, row execCancel _ _ rfl (by simp [event])]
    have lane : ((s.eventGone l before after).modLine l fun y => { y with cancelSet := false }).lane l =
        { s.lane l with events := before ++ after } := s.lane_eventGone_same l before after
    rw [State.takeCancel_ignored (by simpa [lane] using notValidating) (by simpa [lane] using notAwaiting)]
  · rw [exec, row execLinkLoss _ _ rfl (by simp [event]), State.takeLinkLoss_eq, State.lane_eventGone_same]
    rfl
  · rw [exec, row execLinkRegained _ _ rfl (by simp [event]), State.takeLinkRegained_eq, State.lane_eventGone_same]
    rfl
  · rw [exec, row execEmergencyEvent _ _ rfl (by simp [event]), State.takeEmergency_eq]
    rfl
  · rw [exec, row execLatchClearing _ _ rfl (by simp [event]), State.takeClearing_eq, State.lane_eventGone_same]
    congr 1
    split
    · exact State.atLane_congr (by simp [Lane.settled]) rfl rfl
    · rfl

end Sys2Proof.Machine
end

section
/-! SUPPORT. The results of a claim (R80 to R84), and the claim a presentation in IDLE issues (R77 to R79, R125). -/

namespace Sys2Proof.Machine

@[simp] theorem State.lane_withRequests (s : State) (rs : List ZoneRequest) (m : LaneNo) :
    (s.withRequests rs).lane m = s.lane m := rfl

@[simp] theorem State.lane_modZone (s : State) (z : ZoneNo) (f : Zone → Zone) (m : LaneNo) :
    (s.modZone z f).lane m = s.lane m := rfl

/-! ### A result taken -/

section
variable (s : State) (l : LaneNo)

/-- R81: a result that refuses, as one change at the lane and the release of its place. -/
theorem State.refuseResult_eq (m : Message) (a : Nat) (i : Indication)
    (direction : (s.lane l).config.direction = .entry) :
    s.refuseResult l m a i =
      (s.atLane l
        (fun ln =>
          { ln with
            last := some ⟨⟨m, a, (s.lane l).currentKey⟩, s.mgu.clock⟩, current := none, passage := none
            state := if ln.openIntent then .idle else .closed
            counters := { ln.counters with refused := bump ln.counters.refused } })
        (fun h => { h with waiting := some ⟨m, a, (s.lane l).currentKey⟩ })
        fun y => { y with indication := i, shownSince := s.timebase, cancelSet := false }).withRequests
        [⟨l, (s.lane l).config.zone, .release⟩] := by
  have asked (t : State) (config : (t.lane l).config = (s.lane l).config) :
      t.releasePlace l = t.withRequests [⟨l, (s.lane l).config.zone, .release⟩] := by
    rw [State.releasePlace_eq_withRequests, Lane.releaseRequest, config, if_pos direction]
  rw [State.refuseResult, State.dispose_eq_atLane, asked _ (by simp)]
  simp only [State.countRefused, State.count_eq_atLane, State.clearPresentation_eq_atLane, State.settle_eq_atLane,
    State.withRequests_atLane, State.atLane_atLane]
  congr 1
  refine State.atLane_congr ?_ rfl rfl
  simp [Lane.settled]

/-- R81, R82, R84: the disposition of a result that passes comes before its passage. -/
theorem State.grantResult_eq (m : Message) (a : Nat) (p : Passage) (i : Indication) :
    s.grantResult l m a p i =
      (s.atLane l (fun ln => { ln with last := some ⟨⟨m, a, (s.lane l).currentKey⟩, s.mgu.clock⟩ })
        (fun h => { h with waiting := some ⟨m, a, (s.lane l).currentKey⟩ }) id).beginPassage l p i := by
  rw [State.grantResult, State.dispose_eq_atLane]

/-- A free value picks one of the values offered. -/
theorem getD_free_mem {α : Type} (values : List α) (fallback : α) (nonempty : 0 < values.length) :
    values.getD (s.free values.length) fallback ∈ values := by
  have lt : s.free values.length < values.length := Nat.mod_lt _ nonempty
  simp [List.getD_eq_getElem?_getD, lt]

theorem State.freeIndication_mem (values : List Indication) (nonempty : 0 < values.length) :
    s.freeIndication values ∈ values := getD_free_mem s values .dark nonempty

end

section
variable {s : State} {l : LaneNo} {r : Result} {before after : List LaneEvent}

theorem exec_claimResult (live : s.live) (next : s.nextIs l before (.result r) after) :
    exec (.claimResult l) s = .next ((s.eventGone l before after).takeResult l r) := by
  simp only [exec, execClaimResult, whenRunning_of_live live,
    State.takeIf_of_nextIs next (named := LaneEvent.isResult) rfl]

theorem State.takeResult_ignored (state : (s.lane l).state ≠ .validating) : s.takeResult l r = s := if_pos state

theorem State.takeResult_entry (state : (s.lane l).state = .validating)
    (direction : (s.lane l).config.direction = .entry) : s.takeResult l r = s.entryResult l r := by
  simp only [State.takeResult, state, direction, ne_eq, not_true, if_false]

theorem State.takeResult_exit (state : (s.lane l).state = .validating)
    (direction : (s.lane l).config.direction = .exit) : s.takeResult l r = s.exitResult l r := by
  simp only [State.takeResult, state, direction, ne_eq, not_true, if_false]

/-- The verdicts of R81 that refuse with the REFUSE indication. -/
theorem State.entryResult_refused {v : Verdict} (a : Nat)
    (listed : v = .unknown ∨ v = .void ∨ v = .wrongLane ∨ v = .wrongZone ∨ v = .tooEarly ∨ v = .tooLate ∨
      v = .inProgress ∨ v = .alreadyIn ∨ v = .noReentry ∨ v = .cooldown) :
    s.entryResult l (.verdict v a) = s.refuseResult l (.ofVerdict v) a .refuse := by
  obtain rfl | rfl | rfl | rfl | rfl | rfl | rfl | rfl | rfl | rfl := listed
  all_goals rfl

/-- The verdicts R82 does not list. -/
theorem State.exitResult_unlisted {v : Verdict} (a : Nat) (notOk : v ≠ .exitOk) (notUnmatched : v ≠ .exitUnmatched)
    (notProgress : v ≠ .inProgress) (notBusy : v ≠ .homeBusy) :
    s.exitResult l (.verdict v a) = s.unlistedExit l a := by
  cases v
  case exitOk => exact absurd rfl notOk
  case exitUnmatched => exact absurd rfl notUnmatched
  case inProgress => exact absurd rfl notProgress
  case homeBusy => exact absurd rfl notBusy
  all_goals rfl

/-- An unlisted result begins an UNCHECKED passage, its message and indication picked by two free values (log entry
12). -/
theorem State.unlistedExit_eq (s : State) (l : LaneNo) (a : Nat) :
    ∃ m ∈ exitMessages, ∃ i ∈ exitIndications,
      s.unlistedExit l a = s.freeUsed.freeUsed.grantResult l m a ⟨.unchecked, none, none⟩ i :=
  ⟨_, getD_free_mem s exitMessages .exitUnchecked (by decide), _,
    s.freeUsed.freeIndication_mem exitIndications (by decide), rfl⟩

end

/-- Settles O54: outside VALIDATING, on an ENTRY lane and on an EXIT lane, row by row of R81 and R82. -/
theorem resultsTaken : Obligations.ResultsTaken := by
  intro s l r before after live next
  rw [exec_claimResult live next]
  refine ⟨fun state => ?_, fun state direction => ?_, fun state direction => ?_⟩
  · rw [State.takeResult_ignored (by simpa using state)]
  · have entry : ((s.eventGone l before after).lane l).config.direction = .entry := by simpa using direction
    have refused (t : State) (left : t.lanes = (s.eventGone l before after).lanes) (m : Message) (a : Nat)
        (i : Indication) :=
      t.refuseResult_eq l m a i (by rw [State.lane_congr left]; exact entry)
    rw [State.takeResult_entry (by simpa using state) entry]
    refine ⟨fun v a result => ⟨fun grants => ?_, fun busy => ?_, fun listed => ?_, fun unlisted => ?_⟩,
      fun x result => ?_, fun x result => ?_, fun result => ?_, fun result => ?_⟩
    · subst result
      have granted : (s.eventGone l before after).entryResult l (.verdict v a) =
          (s.eventGone l before after).grantResult l (.ofVerdict v) a
            ⟨.granted, some ((s.eventGone l before after).claimTag l), none⟩ .grant := by
        obtain rfl | rfl := grants <;> rfl
      rw [granted, State.grantResult_eq, State.claimTag, State.lane_eventGone_same]
      rfl
    · subst result busy
      rw [State.entryResult, refused _ rfl, State.lane_eventGone_same]
      rfl
    · subst result
      rw [State.entryResult_refused a listed, refused _ rfl, State.lane_eventGone_same]
      rfl
    · subst result
      refine ⟨(s.eventGone l before after).freeIndication settleIndications,
        State.freeIndication_mem _ _ (by decide), ?_⟩
      have settled : (s.eventGone l before after).entryResult l (.verdict v a) =
          (s.eventGone l before after).freeUsed.refuseResult l (.ofVerdict v) a
            ((s.eventGone l before after).freeIndication settleIndications) := by
        obtain rfl | rfl := unlisted <;> rfl
      rw [settled, refused (s.eventGone l before after).freeUsed rfl]
      rw [show (s.eventGone l before after).freeUsed.lane l = { s.lane l with events := before ++ after } from
        State.lane_eventGone_same s l before after]
      rfl
    · subst result
      rw [State.entryResult, State.grantResult_eq, State.lane_eventGone_same]
      rfl
    · subst result
      rw [State.entryResult, refused _ rfl, State.lane_eventGone_same]
      rfl
    · subst result
      rw [State.entryResult, refused _ rfl, State.lane_eventGone_same]
      rfl
    · subst result
      rw [State.entryResult, refused _ rfl, State.lane_eventGone_same]
      rfl
  · rw [State.takeResult_exit (by simpa using state) (by simpa using direction)]
    have unlisted (a : Nat) (result : (s.eventGone l before after).exitResult l r =
        (s.eventGone l before after).unlistedExit l a) :
        ∃ m ∈ exitMessages, ∃ i ∈ exitIndications,
          (s.eventGone l before after).exitResult l r =
            (s.eventGone l before after).freeUsed.freeUsed.grantResult l m a ⟨.unchecked, none, none⟩ i := by
      rw [result]
      exact State.unlistedExit_eq _ l a
    have drawn : (s.eventGone l before after).freeUsed.freeUsed.lane l = { s.lane l with events := before ++ after } :=
      State.lane_eventGone_same s l before after
    refine ⟨fun v a result => ⟨fun ok => ?_, fun unmatched => ?_, fun unchecked => ?_,
      fun notOk notUnmatched notProgress notBusy => ?_⟩, fun result => ?_, fun x result => ?_, fun result => ?_⟩
    · subst result ok
      rw [State.exitResult, State.grantResult_eq, State.claimTag, State.lane_eventGone_same]
      rfl
    · subst result unmatched
      rw [State.exitResult, State.grantResult_eq, State.lane_eventGone_same]
      rfl
    · subst result
      have begun : (s.eventGone l before after).exitResult l (.verdict v a) =
          (s.eventGone l before after).grantResult l .exitUnchecked a ⟨.unchecked, none, none⟩ .grant := by
        obtain rfl | rfl := unchecked <;> rfl
      rw [begun, State.grantResult_eq, State.lane_eventGone_same]
      rfl
    · subst result
      obtain ⟨m, message, i, indication, begun⟩ :=
        unlisted a (State.exitResult_unlisted a notOk notUnmatched notProgress notBusy)
      refine ⟨m, message, i, indication, ?_⟩
      rw [begun, State.grantResult_eq, drawn]
      rfl
    · subst result
      rw [State.exitResult, State.grantResult_eq, State.lane_eventGone_same]
      rfl
    · subst result
      rw [State.exitResult, State.grantResult_eq, State.lane_eventGone_same]
      rfl
    · have same : (s.eventGone l before after).exitResult l r = (s.eventGone l before after).unlistedExit l 0 := by
        obtain rfl | rfl | ⟨x, rfl⟩ := result <;> rfl
      obtain ⟨m, message, i, indication, begun⟩ := unlisted 0 same
      refine ⟨m, message, i, indication, ?_⟩
      rw [begun, State.grantResult_eq, drawn]
      rfl

/-! ### The claim of a presentation -/

section
variable {s : State} {l : LaneNo} {e : TrackerEntry} {claim : Intake}

theorem State.trackClaim_atHome (home : e.home = s.grp.position) :
    s.trackClaim l e claim = (s.setPlace l (some { e with mode := .atHome, deadline := none })).offerIntake claim :=
  if_pos home

theorem State.trackClaim_remote (away : e.home ≠ s.grp.position) (up : s.grp.ringUp = true)
    (room : s.grp.generalRoom = true) :
    s.trackClaim l e claim =
      (s.setPlace l (some { e with
        mode := .remote, deadline := some (s.timebase + s.mgu.settings.claimTimeout) })).offer
        ⟨e.home, .intake claim⟩ := by
  rw [State.trackClaim, if_neg away, up, room]
  rfl

theorem State.trackClaim_unreachable (away : e.home ≠ s.grp.position)
    (noWay : s.grp.ringUp = false ∨ s.grp.generalRoom = false) :
    s.trackClaim l e claim = s.unreachable l { e with mode := .remote, deadline := none } := by
  have closed : (s.grp.ringUp && s.grp.generalRoom) = false := Bool.and_eq_false_iff.mpr noWay
  rw [State.trackClaim, if_neg away, closed]
  rfl

/-- R79: the lane is VALIDATING with the presentation and the next sequence number, and its claim is handed over. -/
theorem State.issueClaim_eq (s : State) (l : LaneNo) (k : Key) (t : Nat) :
    s.issueClaim l k t =
      (s.modLane l fun ln =>
        { ln with state := .validating, current := some ⟨k, t⟩, seq := (ln.seq + 1) % 256 }).trackClaim l
        ⟨(s.lane l).seq, k, (s.lane l).config.direction, k.home s.grp.size, t, .remote, none⟩
        (.claim ⟨s.grp.position, l, (s.lane l).seq⟩ k (s.lane l).config.direction t (s.lane l).config.zone
          (s.lane l).config.classes) := by
  rw [State.issueClaim]
  simp only [State.modLane_eq_atLane, State.enter_eq_atLane, State.atLane_atLane, LaneState.takesCancel, if_true]
  rfl

theorem State.reserveAndClaim_exit {k : Key} {t : Nat} (direction : (s.lane l).config.direction = .exit) :
    s.reserveAndClaim l k t = s.issueClaim l k t := if_pos direction

theorem State.reserveAndClaim_entry {k : Key} {t : Nat} (direction : (s.lane l).config.direction = .entry) :
    s.reserveAndClaim l k t =
      if ((s.serveZoneAll l).zone (s.lane l).config.zone).hasRoom then
        ((s.serveZoneAll l).reserve l).issueClaim l k t
      else (((s.serveZoneAll l).dispose l .zoneFull 0 (some k)).indicate l .refuse).countRefused l := by
  simp only [State.reserveAndClaim, State.lane_serveZoneAll, direction, reduceCtorEq, if_false]

end

/-- The part as a presentation that is no echo goes on to its claim: taken, and remembered for the echo check (R77). -/
def State.presentationNoted (s : State) (l : LaneNo) (rest : List LaneEvent) (k : Key) (t : Nat) : State :=
  s.atLane l (fun ln => { ln with events := rest, echo := some ⟨k, t⟩ }) (fun h => { h with inHand := false }) id

section
variable {s : State} {l : LaneNo} {p : Presentation} {rest : List LaneEvent} {k : Key} {t : Nat}

theorem State.echoCheck_new (notEcho : (s.lane l).isEcho k t = false) :
    s.echoCheck l k t = (s.modLane l fun ln => { ln with echo := some ⟨k, t⟩ }).reserveAndClaim l k t := by
  rw [State.echoCheck, notEcho]
  rfl

/-- A presentation in IDLE that is neither stale, misread nor an echo (R73, R75 to R77). -/
theorem exec_presentation_new (live : s.live) (events : (s.lane l).events = .presentation p :: rest)
    (idle : (s.lane l).state = .idle) (clock : s.mgu.clock = some t)
    (timely : p.age ≤ (s.lane l).config.staleLimit * 10) (read : formKey p.medium p.length p.payload = some k)
    (new : ∀ e, (s.lane l).echo = some e → (s.lane l).config.echoWindow ≠ 0 → e.key = k → e.time ≤ t →
      e.time + (s.lane l).config.echoWindow < t) :
    exec (.presentation l) s = .next ((s.presentationNoted l rest k t).reserveAndClaim l k t) := by
  have notEcho : ((s.presentationGone l rest).lane l).isEcho k t = false := by
    rw [Bool.eq_false_iff, ne_eq, Lane.isEcho_iff, State.presentationGone_lane]
    rintro ⟨e, echo, window, key, before, within⟩
    exact absurd within (Nat.not_le.mpr (new e echo window key before))
  have clock_gone : (s.presentationGone l rest).mgu.clock = some t := clock
  rw [exec_presentation live events, State.takePresentation_idle (by simpa using idle),
    State.processPresentation_read clock_gone (by simpa using timely) read, State.echoCheck_new notEcho,
    State.presentationGone, State.modLane_eq_atLane, State.atLane_atLane]
  rfl

@[simp] theorem State.lane_presentationNoted (s : State) (l : LaneNo) (rest : List LaneEvent) (k : Key) (t : Nat) :
    (s.presentationNoted l rest k t).lane l = { s.lane l with events := rest, echo := some ⟨k, t⟩ } :=
  State.lane_atLane_same s l _ _ _

end

/-- What issuing a claim comes to on a part whose lane, ring port and settings stand as in `s`: at home, on the ring, or
unreachable at once (R9, R79, R124 to R126, R130). -/
theorem State.issueClaim_cases {s x : State} {l : LaneNo} (k : Key) (t : Nat) (grp : x.grp = s.grp)
    (mgu : x.mgu = s.mgu) (timebase : x.timebase = s.timebase) (config : (x.lane l).config = (s.lane l).config)
    (seq : (x.lane l).seq = (s.lane l).seq) :
    let c := (s.lane l).config
    let home := k.value % s.grp.size
    let claim : Intake := .claim ⟨s.grp.position, l, (s.lane l).seq⟩ k c.direction t c.zone c.classes
    let tracked (mode : Mode) (deadline : Option Nat) : TrackerEntry :=
      { seq := (s.lane l).seq, key := k, kind := c.direction, home := home, time := t, mode := mode
        deadline := deadline }
    let y := x.modLane l fun ln =>
      { ln with state := .validating, current := some ⟨k, t⟩, seq := (ln.seq + 1) % 256 }
    (home = s.grp.position →
      x.issueClaim l k t = (y.setPlace l (some (tracked .atHome none))).offerIntake claim) ∧
    (home ≠ s.grp.position → s.grp.ringUp = true → s.grp.generalRoom = true →
      x.issueClaim l k t =
        (y.setPlace l (some (tracked .remote (some (s.timebase + s.mgu.settings.claimTimeout))))).offer
          ⟨home, .intake claim⟩) ∧
    (home ≠ s.grp.position → s.grp.ringUp = false ∨ s.grp.generalRoom = false →
      x.issueClaim l k t = y.unreachable l (tracked .remote none)) := by
  rw [State.issueClaim_eq, config, seq, grp, ← timebase, ← mgu, ← grp]
  exact ⟨fun home => State.trackClaim_atHome (by exact home),
    fun away up room => State.trackClaim_remote (by exact away) (by exact up) (by exact room),
    fun away noWay => State.trackClaim_unreachable (by exact away) (by exact noWay)⟩

/-- Settles O53: by the lane's direction, on an ENTRY lane by the room of its zone, and then by where the claim goes. -/
theorem claimIssued : Obligations.ClaimIssued := by
  intro s l p rest k t live events idle clock timely read new
  rw [exec_presentation_new live events idle clock timely read new]
  have room_iff := Grp.generalRoom_iff s.grp
  have noRoom_iff : ¬(s.grp.localQueue.length < 32 ∧
      (s.grp.localQueue.filter fun x => x.body.general).length < 24) ↔ s.grp.generalRoom = false := by
    rw [← room_iff, Bool.not_eq_true]
  refine ⟨fun direction => ?_, fun direction => ⟨fun room => ?_, fun full => ?_⟩⟩
  · obtain ⟨atHome, remote, unreachable⟩ :=
      State.issueClaim_cases (s := s) (x := s.presentationNoted l rest k t) (l := l) k t rfl rfl rfl (by simp) (by simp)
    rw [State.reserveAndClaim_exit (by simpa using direction)]
    exact ⟨fun home => congrArg Host.Outcome.next (atHome home),
      fun away up room => congrArg Host.Outcome.next (remote away up (room_iff.mpr room)),
      fun away noWay => congrArg Host.Outcome.next (unreachable away (noWay.imp_right noRoom_iff.mp))⟩
  · have hasRoom := (Zone.hasRoom_iff _).mpr room
    have lane : ((s.presentationNoted l rest k t).serveZoneAll l).lane l =
        { s.lane l with events := rest, echo := some ⟨k, t⟩ } := by rw [State.lane_serveZoneAll]; simp
    rw [State.reserveAndClaim_entry (by simpa using direction), State.lane_presentationNoted]
    rw [if_pos (by exact hasRoom), State.reserve, lane]
    obtain ⟨atHome, remote, unreachable⟩ :=
      State.issueClaim_cases (s := s)
        (x := ((s.presentationNoted l rest k t).serveZoneAll l).modZone (s.lane l).config.zone fun r =>
          { r with reserved := r.reserved + 1 })
        (l := l) k t (by simp [State.presentationNoted]) (by simp [State.presentationNoted])
        (by simp [State.presentationNoted]) (by rw [State.lane_modZone, lane])
        (by rw [State.lane_modZone, lane])
    exact ⟨fun home => congrArg Host.Outcome.next (atHome home),
      fun away up room => congrArg Host.Outcome.next (remote away up (room_iff.mpr room)),
      fun away noWay => congrArg Host.Outcome.next (unreachable away (noWay.imp_right noRoom_iff.mp))⟩
  · have noRoom := mt (Zone.hasRoom_iff _).mp (Nat.not_lt.mpr full)
    have clock_served : ((s.presentationNoted l rest k t).serveZoneAll l).mgu.clock = some t := by
      simpa [State.presentationNoted] using clock
    have timebase_served : ((s.presentationNoted l rest k t).serveZoneAll l).timebase = s.timebase := by
      simp [State.presentationNoted]
    rw [State.reserveAndClaim_entry (by simpa using direction), State.lane_presentationNoted]
    rw [if_neg (by exact noRoom), State.refused_eq_atLane, clock_served, timebase_served]
    rfl

end Sys2Proof.Machine
end

section
/-! SUPPORT. What any row can come to (`Effect`): one inversion of `exec`, from which the invariants are proved without
unfolding a row again. -/

namespace Sys2Proof.Machine

/-! ### The next event, found -/

theorem takeEvent_some {es rest : List LaneEvent} {e : LaneEvent} (taken : takeEvent es = some (e, rest)) :
    ∃ before after, es = before ++ e :: after ∧ rest = before ++ after ∧
      (∀ x ∈ before, x.isPresentation = true) ∧ e.isPresentation = false := by
  induction es generalizing rest with
  | nil => simp [takeEvent] at taken
  | cons x es ih =>
    cases presentation : x.isPresentation with
    | true =>
      simp only [takeEvent, presentation, if_true, Option.map_eq_some_iff, Prod.exists, Prod.mk.injEq] at taken
      obtain ⟨_, rest', later, rfl, rfl⟩ := taken
      obtain ⟨before, after, rfl, rfl, overtaken, notPresentation⟩ := ih later
      exact ⟨x :: before, after, rfl, rfl, by simpa [presentation] using overtaken, notPresentation⟩
    | false =>
      simp only [takeEvent, presentation, Bool.false_eq_true, if_false, Option.some.injEq, Prod.mk.injEq] at taken
      obtain ⟨rfl, rfl⟩ := taken
      exact ⟨[], es, rfl, rfl, by simp, presentation⟩

/-- A lane row leaves the state as it is, or acts on the part with the lane's next event taken. -/
theorem State.takeIf_cases (s : State) (l : LaneNo) (named : LaneEvent → Bool) (act : State → LaneEvent → State) :
    s.takeIf l named act = s ∨ ∃ before e after, s.nextIs l before e after ∧ named e = true ∧
      s.takeIf l named act = act (s.eventGone l before after) e := by
  cases taken : takeEvent (s.lane l).events with
  | none =>
    left
    simp [State.takeIf, State.nextEvent, taken]
  | some found =>
    obtain ⟨e, rest⟩ := found
    obtain ⟨before, after, events, -, overtaken, notPresentation⟩ := takeEvent_some taken
    have next : s.nextIs l before e after := ⟨events, overtaken, notPresentation⟩
    cases due : named e with
    | true => exact .inr ⟨before, e, after, next, due, State.takeIf_of_nextIs next due act⟩
    | false =>
      left
      simp [State.takeIf, State.nextEvent, taken, due]

/-! ### The management rows -/

/-- The rows that carry out the commands of the management cells (section 10.1). -/
def managementRow : Instr → Bool
  | .putRecord | .loadOpen | .loadRecords _ | .loadAbort | .voidKey | .restoreKey | .dropKey | .queryKey | .setLane
  | .laneOpen | .laneClose | .laneReset | .laneRelease | .readLane | .setZone | .readZone | .setClock | .setGate
  | .readGate | .emergencyClear | .gateClear _ | .unknownCommand => true
  | _ => false

theorem managementRow_row (c : Command) (pins : Pins) (access : LoadAccess) :
    managementRow (c.row pins access) = true := by cases c <;> rfl

theorem exists_row {i : Instr} (management : managementRow i = true) :
    ∃ d pins access, i = Command.row pins access d := by
  have pins : Pins := ⟨0, 0, 0, 0, false⟩
  have access : LoadAccess := .wholeCell
  cases i
  case putRecord => exact ⟨.putRecord (imageAt [] 0), pins, access, rfl⟩
  case loadOpen => exact ⟨.loadOpen 0, pins, access, rfl⟩
  case loadRecords access => exact ⟨.loadRecords 0 (imageAt [] 0) (imageAt [] 0), pins, access, rfl⟩
  case loadAbort => exact ⟨.loadAbort, pins, access, rfl⟩
  case voidKey => exact ⟨.voidKey (keyAt [] 0), pins, access, rfl⟩
  case restoreKey => exact ⟨.restoreKey (keyAt [] 0), pins, access, rfl⟩
  case dropKey => exact ⟨.dropKey (keyAt [] 0), pins, access, rfl⟩
  case queryKey => exact ⟨.queryKey (keyAt [] 0), pins, access, rfl⟩
  case setLane => exact ⟨.setLane 0 0 0 0 0 0 0 0 0 0, pins, access, rfl⟩
  case laneOpen => exact ⟨.laneOpen 0, pins, access, rfl⟩
  case laneClose => exact ⟨.laneClose 0, pins, access, rfl⟩
  case laneReset => exact ⟨.laneReset 0, pins, access, rfl⟩
  case laneRelease => exact ⟨.laneRelease 0, pins, access, rfl⟩
  case readLane => exact ⟨.readLane 0 false, pins, access, rfl⟩
  case setZone => exact ⟨.setZone 0 0, pins, access, rfl⟩
  case readZone => exact ⟨.readZone 0 false, pins, access, rfl⟩
  case setClock => exact ⟨.setClock 0, pins, access, rfl⟩
  case setGate => exact ⟨.setGate 0 0 0, pins, access, rfl⟩
  case readGate => exact ⟨.readGate false, pins, access, rfl⟩
  case emergencyClear => exact ⟨.emergencyClear, pins, access, rfl⟩
  case gateClear pins => exact ⟨.gateClear, pins, access, rfl⟩
  case unknownCommand => exact ⟨.unknown 0, pins, access, rfl⟩
  all_goals exact absurd management Bool.false_ne_true

/-! ### What a row comes to -/

/-- The part as a power-on leaves it (R152). -/
def State.poweredOn (s : State) (pins : Pins) : State :=
  State.reportReset { s.resetBlocks pins with grp := { (s.resetBlocks pins).grp with sending := [] } } pins

/-- The part held in reset (section 5.7). -/
def State.heldInReset (s : State) : State :=
  { s with
    inReset := true
    tlu := { s.tlu with lines := perLane fun l => (s.line l).heldInReset s.timebase, latched := false }
    grp := { s.grp with sending := [] } }

/-- The ring port once 50 ms have passed without a good cell, before the claims are ended (R150). -/
def State.ringFallen (s : State) : State :=
  let s1 := s.reach (s.grp.lastGood + Config.ringSilence)
  let downs := bump s1.grp.counters.ringDowns
  State.report
    { s1 with
      grp :=
        { s1.grp with
          ringUp := false, downSince := s1.timebase, counters := { s1.grp.counters with ringDowns := downs } } }
    (.ringDown downs)

/-- PASSED performed: the hold it matches committed, or the notice applied as a use (R53, R58). -/
def State.performPassed (s : State) (t : Tag) (k : Key) (kind : Kind) (time : Nat) : State :=
  match s.matchedHold t k with
  | some (i, h) => s.commit i h k time
  | none => s.applyUse k kind time (.tag t)

/-- ABANDON performed: the hold it matches reverted, or the notice counted (R55, R57). -/
def State.performAbandon (s : State) (t : Tag) (k : Key) : State :=
  match s.matchedHold t k with
  | some (i, h) => s.endHold i h h.snapshot
  | none => { s with hdu := { s.hdu with strayAbandons := bump s.hdu.strayAbandons } }

/-- The oldest verdict taken by the Claim Tracker (R127, R128, R177). -/
def State.takeVerdict (s : State) (v : HandedVerdict) : State :=
  match v.name with
  | none => { s with clt := { s.clt with lateVerdicts := bump s.clt.lateVerdicts } }
  | some name =>
    match s.matchedClaim v with
    | some l => (s.setPlace l none).handResult l (.verdict name v.argument)
    | none => s.lateVerdict v name

/-- The clock at its next whole second (R167). -/
def State.secondPassed (s : State) (t : Nat) : State :=
  let s1 := s.reach s.mgu.nextSecond
  { s1 with
    mgu :=
      { s1.mgu with
        clock := some (if t < Config.maxSecond then t + 1 else t), nextSecond := s1.mgu.nextSecond + 1000 } }

/-- What the lane bus can come to: a transaction begun, or one closed by its answer or by none (R112 to R121). -/
inductive BusEffect (s : State) : State → Prop
  | pollBegun (l : LaneNo) (rest : List LaneNo) (free : s.lbp.underWay = none) :
    BusEffect s { s with lbp := { s.lbp with round := rest, afterPoll := true, underWay := some (.poll l) } }
  | fetchBegun (pr : Priority) (l : LaneNo) (free : s.lbp.underWay = none) (chosen : s.arbiter = some (pr, l)) :
    BusEffect s
      (State.modHead { s with lbp := { s.lbp.point pr l with afterPoll := false, underWay := some (.fetch l) } } l
        fun h => { h with offered := h.offered - 1 })
  | deliveryBegun (l : LaneNo) (d : Disposition) (free : s.lbp.underWay = none) (due : s.nextDelivery = some l)
    (waiting : (s.head l).waiting = some d) :
    BusEffect s
      (State.modHead { s with lbp := { s.lbp with underWay := some (.delivery l d false) } } l
        fun h => { h with waiting := none, room := h.room - 1 })
  | polled (l : LaneNo) (count room : Nat) (underWay : s.lbp.underWay = some (.poll l)) :
    BusEffect s (s.busFree.polled l count room)
  | missed (l : LaneNo) (underWay : s.lbp.underWay = some (.poll l) ∨ s.lbp.underWay = some (.fetch l)) :
    BusEffect s (s.busFree.missed l)
  | fetched (l : LaneNo) (answer : Option (Option Presentation)) (underWay : s.lbp.underWay = some (.fetch l)) :
    BusEffect s (s.busFree.fetched l answer)
  | acknowledged (l : LaneNo) (d : Disposition) (gone : Bool)
    (underWay : s.lbp.underWay = some (.delivery l d gone)) :
    BusEffect s
      (if (s.lane l).config.fitted then s.busFree.modHead l fun h => { h with missed := 0 } else s.busFree)
  | undelivered (l : LaneNo) (d : Disposition) (gone : Bool)
    (underWay : s.lbp.underWay = some (.delivery l d gone)) : BusEffect s (s.busFree.undelivered l d gone)

/-- What a row can come to on a running part: nothing, or its own effect with what makes it due. -/
inductive Effect (s : State) : Instr → State → Prop
  | notDue (i : Instr) : Effect s i s
  | management {i : Instr} {pins : Pins} {access : LoadAccess} {c : MgmtCell} {rest : List MgmtCell} {t : State}
    (head : s.headCommand c rest) (row : c.command.row pins access = i) (effect : ManagementEffect s pins c rest t) :
    Effect s i t
  | bus {i : Instr} {t : State} (noLane : rowLane i = none) (effect : BusEffect s t) : Effect s i t
  | sweepComplete (sweeping : s.adt.phase = .sweeping) :
    Effect s .sweepComplete { s with adt := { s.adt with phase := .ready, table := [] } }
  | badCell (cell : List Byte) :
    Effect s (.ringCellReceived cell) (s.countRing fun c => { c with checkErrors := bump c.checkErrors })
  | goodCell (cell : List Byte) : Effect s (.ringCellReceived cell) (s.goodCell.handleCell cell)
  | ringDown (up : s.grp.ringUp = true) :
    Effect s .ringDownTimeout (laneNos.foldl State.unreachableIfRemote s.ringFallen)
  | outputCellEnd : Effect s .outputCellEnd { s with grp := s.grp.sendNext }
  | claim {t : Tag} {k : Key} {kind : Kind} {time zone : Nat} {classes : BitVec 16} {rest : List Intake}
    (head : s.hdu.intake = .claim t k kind time zone classes :: rest) :
    Effect s .claim (s.takeEntry rest fun s => (s.lapseReused t).decide t k ⟨kind, time, zone, classes⟩)
  | passed {t : Tag} {k : Key} {kind : Kind} {time : Nat} {rest : List Intake}
    (head : s.hdu.intake = .passed t k kind time :: rest) :
    Effect s .passed (s.takeEntry rest fun s => s.performPassed t k kind time)
  | abandon {t : Tag} {k : Key} {rest : List Intake} (head : s.hdu.intake = .abandon t k :: rest) :
    Effect s .abandon (s.takeEntry rest fun s => s.performAbandon t k)
  | lateUse {part lane : Nat} {k : Key} {kind : Kind} {time : Nat} {rest : List Intake}
    (head : s.hdu.intake = .lateUse part lane k kind time :: rest) :
    Effect s .lateUse (s.takeEntry rest fun s => s.applyUse k kind time (.lane part lane))
  | holdDeadline (i : HoldNo) (h : Hold) (live : s.holdAt i = some h) :
    Effect s (.holdDeadline i) ((s.reach h.deadline).lapse i h .deadline)
  | verdict {v : HandedVerdict} {rest : List HandedVerdict} (inbox : s.clt.inbox = v :: rest) :
    Effect s .verdict (State.takeVerdict { s with clt := { s.clt with inbox := rest } } v)
  | claimTimeout (l : LaneNo) (e : TrackerEntry) (d : Nat) (place : s.place l = some e) :
    Effect s (.claimTimeout l) ((s.reach d).unreachable l e)
  | drainLateUse {r : LogRecord} {rest : List LogRecord} (log : s.clt.log = r :: rest) :
    Effect s .drainLateUse
      ((s.setLog rest).sendNotice (.lateUse s.grp.position r.lane r.key r.kind r.time) r.key)
  | presentation (l : LaneNo) (p : Presentation) (rest : List LaneEvent)
    (events : (s.lane l).events = .presentation p :: rest) :
    Effect s (.presentation l) ((s.presentationGone l rest).takePresentation l p)
  | claimResult (l : LaneNo) (r : Result) {before after : List LaneEvent}
    (next : s.nextIs l before (.result r) after) :
    Effect s (.claimResult l) ((s.eventGone l before after).takeResult l r)
  | rotation (l : LaneNo) (latched : Bool) {before after : List LaneEvent}
    (next : s.nextIs l before (.rotation latched) after) :
    Effect s (.rotation l) ((s.eventGone l before after).takeRotation l latched)
  | passExpiry (l : LaneNo) {before after : List LaneEvent} (next : s.nextIs l before .passExpiry after) :
    Effect s (.passExpiry l) ((s.eventGone l before after).takeExpiry l)
  | cancel (l : LaneNo) {before after : List LaneEvent} (next : s.nextIs l before .cancel after) :
    Effect s (.cancel l)
      (((s.eventGone l before after).modLine l fun x => { x with cancelSet := false }).takeCancel l)
  | linkLoss (l : LaneNo) {before after : List LaneEvent} (next : s.nextIs l before .linkLoss after) :
    Effect s (.linkLoss l) ((s.eventGone l before after).takeLinkLoss l)
  | linkRegained (l : LaneNo) {before after : List LaneEvent} (next : s.nextIs l before .linkRegained after) :
    Effect s (.linkRegained l) ((s.eventGone l before after).takeLinkRegained l)
  | emergencyEvent (l : LaneNo) {before after : List LaneEvent} (next : s.nextIs l before .emergency after) :
    Effect s (.emergencyEvent l) ((s.eventGone l before after).takeEmergency l)
  | latchClearing (l : LaneNo) {before after : List LaneEvent} (next : s.nextIs l before .latchClearing after) :
    Effect s (.latchClearing l) ((s.eventGone l before after).takeClearing l)
  | rotationEdge (l : LaneNo) (inactive : (s.line l).sensorActive = false) :
    Effect s (.rotationEdge l)
      ((s.modLine l fun x =>
        { x with
          sensorActive := true
          latch := if (s.line l).latch == .armed then .captured else x.latch }).hand l
        (.rotation ((s.line l).latch == .armed)))
  | sensorLevelInactive (l : LaneNo) :
    Effect s (.sensorLevelInactive l) (s.modLine l fun x => { x with sensorActive := false })
  | passTimerExpired (l : LaneNo) (d : Nat) (timer : (s.line l).passTimer = some d) :
    Effect s (.passTimerExpired l) (((s.reach d).modLine l fun x => { x with passTimer := none }).hand l .passExpiry)
  | cancelTaken (l : LaneNo) (takes : (s.lane l).state.takesCancel = true) (empty : (s.line l).cancelSet = false) :
    Effect s (.cancelPress l)
      (((s.modLine l fun x => { x with buttonPressed := true }).modLine l fun x => { x with cancelSet := true }).hand l
        .cancel)
  | buttonPressed (l : LaneNo) : Effect s (.cancelPress l) (s.modLine l fun x => { x with buttonPressed := true })
  | buttonReleased (l : LaneNo) : Effect s (.buttonReleased l) (s.modLine l fun x => { x with buttonPressed := false })
  | inputActive : Effect s .emergencyEdge { s with tlu := { s.tlu with inputActive := true } }
  | emergencyEdge :
    Effect s .emergencyEdge
      ((State.handAll { s with tlu := { s.tlu with inputActive := true, latched := true, setAt := s.timebase } }
        .emergency).report (.emergency .edge))
  | inputInactive : Effect s .emergencyInputInactive { s with tlu := { s.tlu with inputActive := false } }
  | indicationTimeout (l : LaneNo) (timed : (s.line l).indication.timed = true) :
    Effect s (.indicationTimeout l) ((s.reach ((s.line l).shownSince + Config.indicationSpan)).indicate l .dark)
  | zoneServed {i : Instr} (l : LaneNo) (row : rowLane i = some l) : Effect s i (s.serveZone l)
  | clockSecond (t : Nat) (clock : s.mgu.clock = some t) : Effect s .clockSecond (s.secondPassed t)

/-- A polling, fetching or delivering row and MISS have an effect on the bus, or none. -/
theorem Effect.of_bus {s t : State} {i : Instr} (noLane : rowLane i = none) (effect : t = s ∨ BusEffect s t) :
    Effect s i t := by
  obtain rfl | effect := effect
  · exact .notDue i
  · exact .bus noLane effect

section
variable {s t : State}

theorem execPoll_effect (live : s.live) {moment : Exchange} (result : execPoll moment s = .next t) :
    t = s ∨ BusEffect s t := by
  simp only [execPoll, whenRunning_of_live live, Host.Outcome.next.injEq] at result
  subst result
  cases moment with
  | begun =>
    cases free : s.lbp.underWay with
    | some x => exact .inl rfl
    | none =>
      dsimp only
      split
      · exact .inl rfl
      · split
        · exact .inr (.pollBegun _ _ free)
        · exact .inl rfl
  | answered bytes =>
    cases underWay : s.lbp.underWay with
    | none => exact .inl rfl
    | some x =>
      cases x with
      | poll l =>
        dsimp only
        split
        · exact .inr (.polled l _ _ underWay)
        · exact .inr (.missed l (.inl underWay))
      | fetch l => exact .inl rfl
      | delivery l d gone => exact .inl rfl

theorem execFetch_effect (live : s.live) {moment : Exchange} (result : execFetch moment s = .next t) :
    t = s ∨ BusEffect s t := by
  simp only [execFetch, whenRunning_of_live live, Host.Outcome.next.injEq] at result
  subst result
  cases moment with
  | begun =>
    cases free : s.lbp.underWay with
    | some x => exact .inl rfl
    | none =>
      dsimp only
      split
      · exact .inl rfl
      · cases chosen : s.arbiter with
        | none => exact .inl rfl
        | some choice => exact .inr (.fetchBegun choice.1 choice.2 free chosen)
  | answered bytes =>
    cases underWay : s.lbp.underWay with
    | none => exact .inl rfl
    | some x =>
      cases x with
      | poll l => exact .inl rfl
      | fetch l => exact .inr (.fetched l _ underWay)
      | delivery l d gone => exact .inl rfl

theorem execDelivery_effect (live : s.live) {moment : Exchange} (result : execDelivery moment s = .next t) :
    t = s ∨ BusEffect s t := by
  simp only [execDelivery, whenRunning_of_live live, Host.Outcome.next.injEq] at result
  subst result
  cases moment with
  | begun =>
    cases free : s.lbp.underWay with
    | some x => exact .inl rfl
    | none =>
      cases due : s.nextDelivery with
      | none => exact .inl rfl
      | some l =>
        cases waiting : (s.head l).waiting with
        | none => simp [waiting]
        | some d =>
          dsimp only
          rw [waiting]
          exact .inr (.deliveryBegun l d free due waiting)
  | answered bytes =>
    cases underWay : s.lbp.underWay with
    | none => exact .inl rfl
    | some x =>
      cases x with
      | poll l => exact .inl rfl
      | fetch l => exact .inl rfl
      | delivery l d gone =>
        dsimp only
        split
        · exact .inr (.acknowledged l d gone underWay)
        · exact .inr (.undelivered l d gone underWay)

theorem execMiss_effect (live : s.live) (result : execMiss s = .next t) : t = s ∨ BusEffect s t := by
  simp only [execMiss, whenRunning_of_live live, Host.Outcome.next.injEq] at result
  subst result
  cases underWay : s.lbp.underWay with
  | none => exact .inl rfl
  | some x =>
    cases x with
    | poll l => exact .inr (.missed l (.inl underWay))
    | fetch l => exact .inr (.missed l (.inr underWay))
    | delivery l d gone => exact .inr (.undelivered l d gone underWay)

/-- The row of an event its lane takes next has that event's effect, or none. -/
theorem Effect.of_takeIf {i : Instr} {l : LaneNo} {named : LaneEvent → Bool} {act : State → LaneEvent → State}
    (due : ∀ before e after, s.nextIs l before e after → named e = true →
      Effect s i (act (s.eventGone l before after) e)) : Effect s i (s.takeIf l named act) := by
  obtain idle | ⟨before, e, after, next, isNamed, taken⟩ := s.takeIf_cases l named act
  · rw [idle]
    exact .notDue i
  · rw [taken]
    exact due before e after next isNamed

/-- A row of the Zone Counter Unit serves the lane's oldest request, or has no effect. -/
theorem Effect.of_serveZoneIf {i : Instr} {l : LaneNo} (row : rowLane i = some l) (ask : ZoneAsk) :
    Effect s i (s.serveZoneIf l ask) := by
  unfold State.serveZoneIf
  split
  · split
    · exact .zoneServed l row
    · exact .notDue i
  · exact .notDue i

end

/-- Every row of a running part has an effect of its own, or none; POWER_ON and RSTN_LOW are apart. -/
theorem exec_effect {s t : State} {i : Instr} (live : s.live) (result : exec i s = .next t)
    (notPowerOn : ∀ pins, i ≠ .powerOn pins) (notRstnLow : i ≠ .rstnLow) : Effect s i t := by
  by_cases management : managementRow i = true
  case pos =>
    obtain ⟨d, pins, access, rfl⟩ := exists_row management
    obtain rfl | ⟨c, rest, head, row, effect⟩ := exec_row_cases live result
    · exact .notDue _
    · exact .management head row effect
  cases i
  case powerOn pins => exact absurd rfl (notPowerOn pins)
  case rstnLow => exact absurd rfl notRstnLow
  case putRecord | loadOpen | loadRecords | loadAbort | voidKey | restoreKey | dropKey | queryKey | setLane | laneOpen
    | laneClose | laneReset | laneRelease | readLane | setZone | readZone | setClock | setGate | readGate
    | emergencyClear | gateClear | unknownCommand => exact absurd rfl management
  case poll => exact .of_bus rfl (execPoll_effect live result)
  case fetch => exact .of_bus rfl (execFetch_effect live result)
  case delivery => exact .of_bus rfl (execDelivery_effect live result)
  case miss => exact .of_bus rfl (execMiss_effect live result)
  all_goals
    simp only [exec, execSweepComplete, execRingCellReceived, execRingDownTimeout, execOutputCellEnd, execClaim,
      execPassed, execAbandon, execLateUse, execHoldDeadline, execVerdict, execClaimTimeout, execDrainLateUse,
      execPresentation, execClaimResult, execRotation, execPassExpiry, execCancel, execLinkLoss, execLinkRegained,
      execEmergencyEvent, execLatchClearing, execRotationEdge, execSensorLevelInactive, execPassTimerExpired,
      execCancelPress, execButtonReleased, execEmergencyEdge, execEmergencyInputInactive, execIndicationTimeout,
      execZoneConvert, execZoneRelease, execZoneExit, execClockSecond, whenRunning_of_live live,
      Host.Outcome.next.injEq] at result
    subst result
  case sweepComplete =>
    split
    · exact .sweepComplete ‹_›
    · exact .notDue _
  case ringCellReceived cell =>
    split
    · exact .notDue _
    · split
      · exact .goodCell cell
      · exact .badCell cell
  case ringDownTimeout =>
    split
    · exact .ringDown ‹_›
    · exact .notDue _
  case outputCellEnd => exact .outputCellEnd
  case claim =>
    split
    · exact .claim ‹_›
    · exact .notDue _
  case passed =>
    split
    · exact .passed ‹_›
    · exact .notDue _
  case abandon =>
    split
    · exact .abandon ‹_›
    · exact .notDue _
  case lateUse =>
    split
    · exact .lateUse ‹_›
    · exact .notDue _
  case holdDeadline index =>
    split
    · exact .holdDeadline index _ ‹_›
    · exact .notDue _
  case verdict =>
    split
    · exact .verdict ‹_›
    · exact .notDue _
  case claimTimeout lane =>
    split
    · split
      · exact .claimTimeout lane _ _ ‹_›
      · exact .notDue _
    · exact .notDue _
  case drainLateUse =>
    split
    · split
      · exact .drainLateUse ‹_›
      · exact .notDue _
    · exact .notDue _
  case presentation lane =>
    split
    · rw [State.modLane_modHead_eq_atLane]
      exact .presentation lane _ _ ‹_›
    · exact .notDue _
  case claimResult lane =>
    refine .of_takeIf fun before e after next named => ?_
    cases e with
    | result r => exact .claimResult lane r next
    | _ => exact absurd named Bool.false_ne_true
  case rotation lane =>
    refine .of_takeIf fun before e after next named => ?_
    cases e with
    | rotation latched => exact .rotation lane latched next
    | _ => exact absurd named Bool.false_ne_true
  case passExpiry lane =>
    exact .of_takeIf fun before e after next named => .passExpiry lane (beq_iff_eq.mp named ▸ next)
  case cancel lane => exact .of_takeIf fun before e after next named => .cancel lane (beq_iff_eq.mp named ▸ next)
  case linkLoss lane => exact .of_takeIf fun before e after next named => .linkLoss lane (beq_iff_eq.mp named ▸ next)
  case linkRegained lane =>
    exact .of_takeIf fun before e after next named => .linkRegained lane (beq_iff_eq.mp named ▸ next)
  case emergencyEvent lane =>
    exact .of_takeIf fun before e after next named => .emergencyEvent lane (beq_iff_eq.mp named ▸ next)
  case latchClearing lane =>
    exact .of_takeIf fun before e after next named => .latchClearing lane (beq_iff_eq.mp named ▸ next)
  case rotationEdge lane =>
    split
    · exact .notDue _
    · exact .rotationEdge lane (by simpa using ‹¬(s.line lane).sensorActive = true›)
  case sensorLevelInactive lane => exact .sensorLevelInactive lane
  case passTimerExpired lane =>
    split
    · exact .passTimerExpired lane _ ‹_›
    · exact .notDue _
  case cancelPress lane =>
    split
    · exact .notDue _
    · split
      · rename_i accepts
        rw [Bool.and_eq_true, Bool.not_eq_true'] at accepts
        exact .cancelTaken lane accepts.1 accepts.2
      · exact .buttonPressed lane
  case buttonReleased lane => exact .buttonReleased lane
  case emergencyEdge =>
    split
    · exact .notDue _
    · split
      · exact .inputActive
      · exact .emergencyEdge
  case emergencyInputInactive => exact .inputInactive
  case indicationTimeout lane =>
    split
    · exact .indicationTimeout lane ‹_›
    · exact .notDue _
  case zoneConvert lane => exact .of_serveZoneIf rfl _
  case zoneRelease lane => exact .of_serveZoneIf rfl _
  case zoneExit lane => exact .of_serveZoneIf rfl _
  case clockSecond =>
    split
    · exact .clockSecond _ ‹_›
    · exact .notDue _

/-- What POWER_ON and RSTN_LOW come to, in every condition of the part. -/
theorem exec_powerOn (pins : Pins) (s : State) : exec (.powerOn pins) s = .next (s.poweredOn pins) := rfl

theorem exec_rstnLow (s : State) : exec .rstnLow s = .next s.heldInReset := rfl

/-- No row faults or is refused (log entry 28). -/
theorem exec_completes (i : Instr) (s : State) : ∃ t, exec i s = .next t := by
  by_cases powerOn : ∃ pins, i = .powerOn pins
  · obtain ⟨pins, rfl⟩ := powerOn
    exact ⟨_, exec_powerOn pins s⟩
  by_cases rstnLow : i = .rstnLow
  · subst rstnLow
    exact ⟨_, exec_rstnLow s⟩
  obtain ⟨f, running⟩ := exec_eq_whenRunning (fun pins h => powerOn ⟨pins, h⟩) rstnLow
  rw [running]
  cases held : s.inReset with
  | true => exact ⟨s, whenRunning_of_reset held f⟩
  | false => exact ⟨f s, whenRunning_of_live held f⟩

/-- A row is POWER_ON, RSTN_LOW, or has an effect; a part held in reset takes no other. -/
theorem exec_cases {s t : State} {i : Instr} (result : exec i s = .next t) :
    (∃ pins, i = .powerOn pins ∧ t = s.poweredOn pins) ∨ (i = .rstnLow ∧ t = s.heldInReset) ∨ Effect s i t := by
  by_cases powerOn : ∃ pins, i = .powerOn pins
  · obtain ⟨pins, rfl⟩ := powerOn
    rw [exec_powerOn] at result
    cases result
    exact .inl ⟨pins, rfl, rfl⟩
  by_cases rstnLow : i = .rstnLow
  · subst rstnLow
    rw [exec_rstnLow] at result
    cases result
    exact .inr (.inl ⟨rfl, rfl⟩)
  have notPowerOn (pins : Pins) : i ≠ .powerOn pins := fun h => powerOn ⟨pins, h⟩
  cases held : s.inReset with
  | true =>
    rw [heldInResetNothingActs i s held notPowerOn rstnLow] at result
    cases result
    exact .inr (.inr (.notDue i))
  | false => exact .inr (.inr (exec_effect held result notPowerOn rstnLow))

end Sys2Proof.Machine
end

section
/-! SUPPORT. What a row of one lane leaves as it is: the other lanes, and the blocks no lane touches (`LaneStep`). -/

namespace Sys2Proof.Machine

/-! ### The blocks no lane touches -/

/-- The command queue of the part, the admission table, the holds, the management unit and the straps. -/
structure CoreKept (s t : State) : Prop where
  pending : t.pending = s.pending
  inReset : t.inReset = s.inReset
  adt : t.adt = s.adt
  holds : t.hdu.holds = s.hdu.holds
  mgu : t.mgu = s.mgu
  position : t.grp.position = s.grp.position
  size : t.grp.size = s.grp.size

theorem CoreKept.refl (s : State) : CoreKept s s := ⟨rfl, rfl, rfl, rfl, rfl, rfl, rfl⟩

theorem CoreKept.trans {s t u : State} (first : CoreKept s t) (second : CoreKept t u) : CoreKept s u :=
  ⟨second.pending.trans first.pending, second.inReset.trans first.inReset, second.adt.trans first.adt,
    second.holds.trans first.holds, second.mgu.trans first.mgu, second.position.trans first.position,
    second.size.trans first.size⟩

/-- What one lane's row may change: that lane's items, and none of another lane or of the other blocks. -/
structure LaneStep (l : LaneNo) (s t : State) : Prop where
  others : State.othersKept l s t
  core : CoreKept s t

theorem State.othersKept.refl (l : LaneNo) (s : State) : State.othersKept l s s :=
  ⟨fun _ _ => rfl, fun _ _ => rfl, fun _ _ => rfl, fun _ _ => rfl, fun _ _ => rfl, fun _ _ => rfl, fun _ _ => rfl, rfl⟩

theorem State.othersKept.trans {l : LaneNo} {s t u : State} (first : State.othersKept l s t)
    (second : State.othersKept l t u) : State.othersKept l s u where
  lane m ne := (second.lane m ne).trans (first.lane m ne)
  head m ne := (second.head m ne).trans (first.head m ne)
  line m ne := (second.line m ne).trans (first.line m ne)
  place m ne := (second.place m ne).trans (first.place m ne)
  log m ne := (second.log m ne).trans (first.log m ne)
  verdicts m ne := (second.verdicts m ne).trans (first.verdicts m ne)
  requests m ne := (second.requests m ne).trans (first.requests m ne)
  bus := second.bus.trans first.bus

/-- A change of the ring port, the timebase or the free values touches no lane. -/
theorem State.othersKept.of_blocks {s t : State} (l : LaneNo) (lanes : t.lanes = s.lanes) (lbp : t.lbp = s.lbp)
    (tlu : t.tlu = s.tlu) (clt : t.clt = s.clt) (zcu : t.zcu = s.zcu) : State.othersKept l s t where
  lane m _ := State.lane_congr lanes m
  head m _ := State.head_congr lbp m
  line m _ := State.line_congr tlu m
  place m _ := State.place_congr clt m
  log m _ := by rw [clt]
  verdicts m _ := by rw [clt]
  requests m _ := by rw [zcu]
  bus := by rw [lbp]

theorem LaneStep.refl (l : LaneNo) (s : State) : LaneStep l s s := ⟨.refl l s, .refl s⟩

theorem LaneStep.trans {l : LaneNo} {s t u : State} (first : LaneStep l s t) (second : LaneStep l t u) :
    LaneStep l s u := ⟨first.others.trans second.others, first.core.trans second.core⟩

theorem Grp.offer_straps (g : Grp) (c : LocalCell) :
    (g.offer c).position = g.position ∧ (g.offer c).size = g.size := by
  unfold Grp.offer
  (repeat' split) <;> exact ⟨rfl, rfl⟩

@[simp] theorem State.offer_straps (s : State) (c : LocalCell) :
    (s.offer c).grp.position = s.grp.position ∧ (s.offer c).grp.size = s.grp.size := s.grp.offer_straps c

@[simp] theorem State.report_straps (s : State) (r : Report) :
    (s.report r).grp.position = s.grp.position ∧ (s.report r).grp.size = s.grp.size := by
  simp only [State.report]
  split
  · exact s.grp.offer_straps _
  · exact ⟨rfl, rfl⟩

/-! ### The operations of a lane, one by one -/

section
variable (s : State) (l : LaneNo)

theorem laneStep_atLane (f : Lane → Lane) (g : Head → Head) (h : Lines → Lines) : LaneStep l s (s.atLane l f g h) where
  others :=
    { lane := fun m ne => by rw [State.lane_atLane, if_neg ne]
      head := fun m ne => by rw [State.head_atLane, if_neg ne]
      line := fun m ne => by rw [State.line_atLane, if_neg ne]
      place := fun _ _ => rfl
      log := fun _ _ => rfl
      verdicts := fun _ _ => rfl
      requests := fun _ _ => rfl
      bus := rfl }
  core := ⟨rfl, rfl, rfl, rfl, rfl, rfl, rfl⟩

theorem laneStep_modLane (f : Lane → Lane) : LaneStep l s (s.modLane l f) := by
  rw [State.modLane_eq_atLane]
  exact laneStep_atLane s l f id id

theorem laneStep_modLine (h : Lines → Lines) : LaneStep l s (s.modLine l h) := by
  rw [State.modLine_eq_atLane]
  exact laneStep_atLane s l id id h

theorem laneStep_report (r : Report) : LaneStep l s (s.report r) :=
  ⟨.of_blocks l rfl rfl rfl rfl rfl, rfl, rfl, rfl, rfl, rfl, by simp, by simp⟩

theorem laneStep_offer (c : LocalCell) : LaneStep l s (s.offer c) :=
  ⟨.of_blocks l rfl rfl rfl rfl rfl, rfl, rfl, rfl, rfl, rfl, by simp, by simp⟩

theorem laneStep_reach (m : Nat) : LaneStep l s (s.reach m) :=
  ⟨.of_blocks l rfl rfl rfl rfl rfl, rfl, rfl, rfl, rfl, rfl, rfl, rfl⟩

theorem laneStep_freeUsed : LaneStep l s s.freeUsed :=
  ⟨.of_blocks l rfl rfl rfl rfl rfl, rfl, rfl, rfl, rfl, rfl, rfl, rfl⟩

theorem laneStep_withRequests {rs : List ZoneRequest} (own : ∀ r ∈ rs, r.lane = l) :
    LaneStep l s (s.withRequests rs) where
  others :=
    { State.othersKept.of_blocks (t := s.withRequests []) l rfl rfl rfl rfl (by simp [State.withRequests]) with
      requests := fun m ne => by
        have none_of_m : rs.filter (fun r => r.lane == m) = [] :=
          List.filter_eq_nil_iff.mpr fun r mem => by simp [own r mem, ne.symm]
        simp [State.withRequests, none_of_m] }
  core := ⟨rfl, rfl, rfl, rfl, rfl, rfl, rfl⟩

theorem laneStep_releasePlace : LaneStep l s (s.releasePlace l) := by
  rw [State.releasePlace_eq_withRequests]
  refine laneStep_withRequests s l fun r mem => ?_
  unfold Lane.releaseRequest at mem
  split at mem
  · rw [List.mem_singleton] at mem
    rw [mem]
  · cases mem

theorem laneStep_modZone (z : ZoneNo) (f : Zone → Zone) : LaneStep l s (s.modZone z f) where
  others :=
    { lane := fun _ _ => rfl, head := fun _ _ => rfl, line := fun _ _ => rfl, place := fun _ _ => rfl
      log := fun _ _ => rfl, verdicts := fun _ _ => rfl, requests := fun _ _ => rfl, bus := rfl }
  core := ⟨rfl, rfl, rfl, rfl, rfl, rfl, rfl⟩

theorem dropRequest_filter {l m : LaneNo} (ne : m ≠ l) (rs : List ZoneRequest) :
    (dropRequest l rs).filter (fun r => r.lane == m) = rs.filter fun r => r.lane == m := by
  induction rs with
  | nil => rfl
  | cons r rs ih =>
    rw [dropRequest]
    split
    next own => simp [own, ne.symm]
    next => rw [List.filter_cons, List.filter_cons, ih]

/-- The part with a lane's oldest request taken from those that wait. -/
def State.requestDropped (s : State) (l : LaneNo) : State :=
  { s with zcu := { s.zcu with requests := dropRequest l s.zcu.requests } }

theorem State.serveZone_of_request {r : ZoneRequest} (request : s.zoneRequest l = some r) :
    s.serveZone l = (s.requestDropped l).modZone r.zone r.ask.apply := by
  simp only [State.serveZone, request]
  rfl

theorem State.serveZone_of_none (none_waits : s.zoneRequest l = none) : s.serveZone l = s := by
  simp only [State.serveZone, none_waits]

theorem laneStep_serveZone : LaneStep l s (s.serveZone l) := by
  cases request : s.zoneRequest l with
  | none =>
    rw [State.serveZone_of_none s l request]
    exact .refl l s
  | some r =>
    rw [State.serveZone_of_request s l request]
    refine LaneStep.trans (t := s.requestDropped l) ⟨?_, rfl, rfl, rfl, rfl, rfl, rfl, rfl⟩ (laneStep_modZone _ l _ _)
    exact
      { lane := fun _ _ => rfl, head := fun _ _ => rfl, line := fun _ _ => rfl, place := fun _ _ => rfl
        log := fun _ _ => rfl, verdicts := fun _ _ => rfl
        requests := fun m ne => dropRequest_filter ne s.zcu.requests
        bus := rfl }

theorem laneStep_serveZoneAll : LaneStep l s (s.serveZoneAll l) := by
  unfold State.serveZoneAll
  generalize s.zcu.requests.filter _ = rs
  induction rs generalizing s with
  | nil => exact .refl l s
  | cons r rs ih => exact (laneStep_serveZone s l).trans (ih (s.serveZone l))

theorem laneStep_setPlace (e : Option TrackerEntry) : LaneStep l s (s.setPlace l e) where
  others :=
    { lane := fun _ _ => rfl, head := fun _ _ => rfl, line := fun _ _ => rfl
      place := fun m ne => by rw [State.place_setPlace, if_neg ne]
      log := fun _ _ => rfl, verdicts := fun _ _ => rfl, requests := fun _ _ => rfl, bus := rfl }
  core := ⟨rfl, rfl, rfl, rfl, rfl, rfl, rfl⟩

/-- A change of the provisional log that leaves every other lane's records. -/
theorem laneStep_setLog {log : List LogRecord}
    (kept : ∀ m : LaneNo, m ≠ l →
      (log.filter fun r => r.lane == m.val) = s.clt.log.filter fun r => r.lane == m.val) :
    LaneStep l s (s.setLog log) where
  others :=
    { lane := fun _ _ => rfl, head := fun _ _ => rfl, line := fun _ _ => rfl, place := fun _ _ => rfl
      log := kept, verdicts := fun _ _ => rfl, requests := fun _ _ => rfl, bus := rfl }
  core := ⟨rfl, rfl, rfl, rfl, rfl, rfl, rfl⟩

theorem laneNo_val_ne {l m : LaneNo} (ne : m ≠ l) : (l.val == m.val) = false :=
  beq_eq_false_iff_ne.mpr fun same => ne (Fin.ext same.symm)

theorem dropPending_filter {l m : LaneNo} (ne : m ≠ l) (log : List LogRecord) :
    ((dropPending l log).filter fun r => r.lane == m.val) = log.filter fun r => r.lane == m.val := by
  induction log with
  | nil => rfl
  | cons r log ih =>
    rw [dropPending]
    split
    next own => rw [List.filter_cons_of_neg (by rw [own.1, laneNo_val_ne ne]; exact Bool.false_ne_true)]
    next => rw [List.filter_cons, List.filter_cons, ih]

theorem markDone_filter {l m : LaneNo} (ne : m ≠ l) (time : Nat) (log : List LogRecord) :
    ((markDone l time log).filter fun r => r.lane == m.val) = log.filter fun r => r.lane == m.val := by
  induction log with
  | nil => rfl
  | cons r log ih =>
    rw [markDone]
    split
    next own => simp [own.1, laneNo_val_ne ne]
    next => rw [List.filter_cons, List.filter_cons, ih]

theorem laneStep_removePending : LaneStep l s (s.removePending l) :=
  laneStep_setLog s l fun _ ne => dropPending_filter ne s.clt.log

theorem laneStep_hand (e : LaneEvent) : LaneStep l s (s.hand l e) := laneStep_modLane s l _

theorem laneStep_handVerdict {v : HandedVerdict} (own : v.tag.lane = l.val) : LaneStep l s (s.handVerdict v) where
  others :=
    { lane := fun _ _ => rfl, head := fun _ _ => rfl, line := fun _ _ => rfl, place := fun _ _ => rfl
      log := fun _ _ => rfl
      verdicts := fun m ne => by
        simp only [State.handVerdict, List.filter_append]
        rw [List.filter_cons_of_neg (by rw [own, laneNo_val_ne ne]; exact Bool.false_ne_true)]
        simp
      requests := fun _ _ => rfl, bus := rfl }
  core := ⟨rfl, rfl, rfl, rfl, rfl, rfl, rfl⟩

theorem Hdu.join_holds (h : Hdu) (e : Intake) : (h.join e).holds = h.holds := by
  unfold Hdu.join
  (repeat' split) <;> rfl

theorem laneStep_join (e : Intake) : LaneStep l s { s with hdu := s.hdu.join e } :=
  ⟨.of_blocks l rfl rfl rfl rfl rfl, rfl, rfl, rfl, s.hdu.join_holds e, rfl, rfl, rfl⟩

/-- A claim under the lane's own tag, or a notice, on its way into this part's intake queue (R40). -/
theorem laneStep_offerIntake {e : Intake}
    (own : ∀ t k kind time zone classes, e = .claim t k kind time zone classes → t.lane = l.val) :
    LaneStep l s (s.offerIntake e) := by
  cases e with
  | claim t k kind time zone classes =>
    simp only [State.offerIntake]
    split
    · exact laneStep_join s l _
    · unfold State.deliverVerdict
      split
      · exact laneStep_handVerdict s l (own t k kind time zone classes rfl)
      · exact laneStep_offer s l _
  | _ => exact laneStep_join s l _

/-- A notice on its way to its home (R140). -/
theorem laneStep_sendNotice {e : Intake} (notice : e.isClaim = false) (k : Key) : LaneStep l s (s.sendNotice e k) := by
  unfold State.sendNotice
  dsimp only
  split
  · refine laneStep_offerIntake s l fun t k kind time zone classes claim => ?_
    rw [claim] at notice
    exact Bool.noConfusion notice
  · exact laneStep_offer s l _

theorem laneStep_unloggedExits (n : Nat) : LaneStep l s { s with clt := { s.clt with unloggedExits := n } } :=
  ⟨⟨fun _ _ => rfl, fun _ _ => rfl, fun _ _ => rfl, fun _ _ => rfl, fun _ _ => rfl, fun _ _ => rfl, fun _ _ => rfl, rfl⟩,
    rfl, rfl, rfl, rfl, rfl, rfl, rfl⟩

theorem laneStep_logPending (e : TrackerEntry) (kind : Kind) (f : LogRecord → Result) :
    LaneStep l s (s.logPending l e kind f) := by
  refine LaneStep.trans (laneStep_setLog s l fun m ne => ?_) (laneStep_hand _ l _)
  rw [List.filter_append, List.filter_cons_of_neg (by simp only [laneNo_val_ne ne]; exact Bool.false_ne_true)]
  simp

/-- A claim found unreachable ends at its own lane (R130, R133 to R135). -/
theorem laneStep_unreachable (e : TrackerEntry) : LaneStep l s (s.unreachable l e) := by
  refine (laneStep_setPlace s l none).trans ?_
  unfold State.unreachable
  dsimp only
  split
  · exact laneStep_hand _ l _
  · unfold State.provisionalEntry
    split
    · exact laneStep_hand _ l _
    · split
      · exact laneStep_hand _ l _
      · exact laneStep_logPending _ l _ _ _
  · unfold State.provisionalExit
    split
    · exact laneStep_logPending _ l _ _ _
    · exact (laneStep_unloggedExits _ l _).trans (laneStep_hand _ l _)

/-! ### The steps of a lane -/

theorem laneStep_dispose (m : Message) (a : Nat) (k : Option Key) : LaneStep l s (s.dispose l m a k) := by
  rw [State.dispose_eq_atLane]
  exact laneStep_atLane s l _ _ _

theorem laneStep_disown : LaneStep l s (s.disown l) := by
  unfold State.disown
  split
  · exact laneStep_setPlace s l none
  · exact laneStep_removePending s l

theorem laneStep_abandonPassage : LaneStep l s (s.abandonPassage l) := by
  unfold State.abandonPassage
  dsimp only
  refine LaneStep.trans ?_ (laneStep_releasePlace _ l)
  split
  · split
    · exact laneStep_sendNotice s l rfl _
    · exact .refl l s
  · exact laneStep_removePending s l
  · exact .refl l s

theorem laneStep_endWork : LaneStep l s (s.endWork l) := by
  unfold State.endWork
  dsimp only
  refine LaneStep.trans ?_ (laneStep_modLane _ l _)
  split
  · exact (laneStep_disown s l).trans (laneStep_releasePlace _ l)
  · exact laneStep_abandonPassage s l
  · exact .refl l s

theorem laneStep_beginPassage (p : Passage) (i : Indication) : LaneStep l s (s.beginPassage l p i) := by
  rw [passageBegins s l p i]
  exact laneStep_atLane s l _ _ _

theorem laneStep_trackClaim (e : TrackerEntry) {claim : Intake}
    (own : ∀ t k kind time zone classes, claim = .claim t k kind time zone classes → t.lane = l.val) :
    LaneStep l s (s.trackClaim l e claim) := by
  unfold State.trackClaim
  split
  · exact (laneStep_setPlace s l _).trans (laneStep_offerIntake _ l own)
  · split
    · exact (laneStep_setPlace s l _).trans (laneStep_offer _ l _)
    · exact laneStep_unreachable s l _

theorem laneStep_issueClaim (k : Key) (t : Nat) : LaneStep l s (s.issueClaim l k t) := by
  rw [State.issueClaim_eq]
  refine (laneStep_modLane s l _).trans (laneStep_trackClaim _ l _ fun t k kind time zone classes claim => ?_)
  cases claim
  rfl

theorem laneStep_reserveAndClaim (k : Key) (t : Nat) : LaneStep l s (s.reserveAndClaim l k t) := by
  cases direction : (s.lane l).config.direction with
  | exit =>
    rw [State.reserveAndClaim_exit direction]
    exact laneStep_issueClaim s l k t
  | entry =>
    rw [State.reserveAndClaim_entry direction]
    refine (laneStep_serveZoneAll s l).trans ?_
    split
    · exact (laneStep_modZone _ l _ _).trans (laneStep_issueClaim _ l k t)
    · rw [State.refused_eq_atLane]
      exact laneStep_atLane _ l _ _ _

theorem laneStep_second : LaneStep l s s.second.2 := by
  unfold State.second
  split
  · exact .refl l s
  · exact laneStep_freeUsed s l

theorem laneStep_takePresentation (p : Presentation) : LaneStep l s (s.takePresentation l p) := by
  cases state : (s.lane l).state
  case idle =>
    rw [State.takePresentation_idle state]
    refine (laneStep_second s l).trans ?_
    unfold State.processPresentation
    dsimp only
    split
    · rw [State.refused_eq_atLane]
      exact laneStep_atLane _ l _ _ _
    · split
      · rw [State.refused_eq_atLane]
        exact laneStep_atLane _ l _ _ _
      · unfold State.echoCheck
        split
        · exact .refl l _
        · exact (laneStep_modLane _ l _).trans (laneStep_reserveAndClaim _ l _ _)
  case closed =>
    rw [State.takePresentation_closed state]
    exact laneStep_dispose s l _ _ _
  case released =>
    rw [State.takePresentation_released state]
    exact laneStep_dispose s l _ _ _
  case validating => rw [State.takePresentation_discarded (.inl state)]; exact .refl l s
  case awaitPass => rw [State.takePresentation_discarded (.inr (.inl state))]; exact .refl l s
  case fault => rw [State.takePresentation_discarded (.inr (.inr state))]; exact .refl l s

theorem laneStep_refuseResult (m : Message) (a : Nat) (i : Indication) :
    LaneStep l s (s.refuseResult l m a i) := by
  unfold State.refuseResult
  rw [State.settle_eq_atLane]
  exact ((((laneStep_dispose s l _ _ _).trans (laneStep_releasePlace _ l)).trans (laneStep_modLane _ l _)).trans
    (laneStep_modLane _ l _)).trans (laneStep_atLane _ l _ _ _)

theorem laneStep_grantResult (m : Message) (a : Nat) (p : Passage) (i : Indication) :
    LaneStep l s (s.grantResult l m a p i) :=
  (laneStep_dispose s l _ _ _).trans (laneStep_beginPassage _ l p i)

/-- A result of an ENTRY lane refuses or grants, perhaps with a free value drawn (R81; log entry 12). -/
theorem State.entryResult_cases (r : Result) :
    (∃ m a p i, s.entryResult l r = s.grantResult l m a p i) ∨
      ∃ m a i, s.entryResult l r = s.refuseResult l m a i ∨ s.entryResult l r = s.freeUsed.refuseResult l m a i := by
  cases r with
  | verdict v a =>
    cases v
    case admitFresh | admitReentry => exact .inl ⟨_, _, _, _, rfl⟩
    case exitOk | exitUnmatched => exact .inr ⟨_, _, _, .inr rfl⟩
    all_goals exact .inr ⟨_, _, _, .inl rfl⟩
  | provisionalAdmit x => exact .inl ⟨_, _, _, _, rfl⟩
  | unreachable x => exact .inr ⟨_, _, _, .inl rfl⟩
  | provisionalLimit => exact .inr ⟨_, _, _, .inl rfl⟩
  | logFull => exact .inr ⟨_, _, _, .inl rfl⟩

/-- Every result of an EXIT lane begins a passage (R82). -/
theorem State.exitResult_cases (r : Result) :
    ∃ m a p i, s.exitResult l r = s.grantResult l m a p i ∨ s.exitResult l r = s.freeUsed.freeUsed.grantResult l m a p i := by
  cases r with
  | verdict v a =>
    cases v
    case exitOk | exitUnmatched | inProgress | homeBusy => exact ⟨_, _, _, _, .inl rfl⟩
    all_goals exact ⟨_, _, _, _, .inr rfl⟩
  | unreachable x =>
    cases x
    all_goals exact ⟨_, _, _, _, .inl rfl⟩
  | _ => exact ⟨_, _, _, _, .inr rfl⟩

theorem laneStep_takeResult (r : Result) : LaneStep l s (s.takeResult l r) := by
  by_cases state : (s.lane l).state = .validating
  · cases direction : (s.lane l).config.direction with
    | entry =>
      rw [State.takeResult_entry state direction]
      obtain ⟨m, a, p, i, granted⟩ | ⟨m, a, i, refused | drawn⟩ := s.entryResult_cases l r
      · rw [granted]
        exact laneStep_grantResult s l m a p i
      · rw [refused]
        exact laneStep_refuseResult s l m a i
      · rw [drawn]
        exact (laneStep_freeUsed s l).trans (laneStep_refuseResult _ l m a i)
    | exit =>
      rw [State.takeResult_exit state direction]
      obtain ⟨m, a, p, i, granted | drawn⟩ := s.exitResult_cases l r
      · rw [granted]
        exact laneStep_grantResult s l m a p i
      · rw [drawn]
        exact ((laneStep_freeUsed s l).trans (laneStep_freeUsed _ l)).trans (laneStep_grantResult _ l m a p i)
  · rw [State.takeResult_ignored state]
    exact .refl l s

theorem laneStep_completePassage (p : Passage) : LaneStep l s (s.completePassage l p) := by
  have told (x : State) (t : Nat) : LaneStep l x ((x.sendPassed l p t).completeRecord l p t) := by
    refine LaneStep.trans (t := x.sendPassed l p t) ?_ ?_
    · unfold State.sendPassed
      split
      · exact laneStep_sendNotice x l rfl _
      · exact .refl l x
    · unfold State.completeRecord
      split
      · exact laneStep_setLog _ l fun _ ne => markDone_filter ne t _
      · exact .refl l _
  have reported (x : State) (t : Nat) : LaneStep l x (x.reportPassage l p t) := by
    unfold State.reportPassage
    dsimp only
    split
    · split
      · exact laneStep_report x l _
      · exact .refl l x
    · exact laneStep_report x l _
    · exact laneStep_report x l _
    · exact laneStep_report x l _
  unfold State.completePassage
  dsimp only
  rw [State.lockArm_settle_eq]
  refine ((((laneStep_second s l).trans (told _ s.second.1)).trans ?_).trans (reported _ s.second.1)).trans
    ((laneStep_modLane _ l _).trans (laneStep_atLane _ l _ _ _))
  refine LaneStep.trans ?_ (laneStep_modLane _ l _)
  rw [State.askZone_eq_withRequests]
  exact laneStep_withRequests _ l (by simp)

theorem laneStep_takeRotation (latched : Bool) : LaneStep l s (s.takeRotation l latched) := by
  have forced : LaneStep l s (s.forced l) := (laneStep_modLane s l _).trans (laneStep_report _ l _)
  unfold State.takeRotation
  split
  · split
    · split
      · exact laneStep_completePassage s l _
      · exact forced
    · exact forced
  · exact laneStep_modLane s l _
  all_goals exact forced

theorem laneStep_takeExpiry : LaneStep l s (s.takeExpiry l) := by
  rw [State.takeExpiry_eq]
  split
  · exact (laneStep_endWork s l).trans (laneStep_atLane _ l _ _ _)
  · exact .refl l s

theorem laneStep_cancel : LaneStep l s ((s.modLine l fun x => { x with cancelSet := false }).takeCancel l) := by
  by_cases validating : (s.lane l).state = .validating
  · rw [State.takeCancel_validating validating]
    exact (laneStep_endWork s l).trans (laneStep_atLane _ l _ _ _)
  by_cases awaiting : (s.lane l).state = .awaitPass
  · rw [State.takeCancel_awaitPass awaiting]
    exact (laneStep_endWork s l).trans (laneStep_atLane _ l _ _ _)
  · rw [State.takeCancel_ignored (by exact validating) (by exact awaiting)]
    exact laneStep_modLine s l _

theorem laneStep_takeLinkLoss : LaneStep l s (s.takeLinkLoss l) := by
  rw [State.takeLinkLoss_eq]
  split
  · exact .refl l s
  · exact ((laneStep_endWork s l).trans (laneStep_atLane _ l _ _ _)).trans (laneStep_report _ l _)

theorem laneStep_takeLinkRegained : LaneStep l s (s.takeLinkRegained l) := by
  rw [State.takeLinkRegained_eq]
  split
  · exact (laneStep_atLane _ l _ _ _).trans (laneStep_report _ l _)
  · exact .refl l s

theorem laneStep_takeEmergency : LaneStep l s (s.takeEmergency l) := by
  rw [State.takeEmergency_eq]
  exact (laneStep_endWork s l).trans (laneStep_atLane _ l _ _ _)

theorem laneStep_takeClearing : LaneStep l s (s.takeClearing l) := by
  rw [State.takeClearing_eq]
  split
  · exact laneStep_atLane _ l _ _ _
  · exact .refl l s

end

/-- No management row is a row of one lane. -/
theorem rowLane_row (c : Command) (pins : Pins) (access : LoadAccess) : rowLane (c.row pins access) = none := by
  cases c <;> rfl

/-- Every row of one lane is a step of that lane. -/
theorem Effect.laneStep {s t : State} {i : Instr} {l : LaneNo} (effect : Effect s i t) (row : rowLane i = some l) :
    LaneStep l s t := by
  cases effect
  case notDue => exact .refl l s
  case management pins access c rest head named effect =>
    rw [← named, rowLane_row] at row
    exact absurd row nofun
  case bus noLane _ => exact absurd (noLane.symm.trans row) nofun
  case zoneServed m named =>
    rw [named, Option.some.injEq] at row
    subst row
    exact laneStep_serveZone s m
  case sweepComplete | badCell | goodCell | ringDown | outputCellEnd | claim | passed | abandon | lateUse | holdDeadline
    | verdict | drainLateUse | inputActive | emergencyEdge | inputInactive | clockSecond => cases row
  all_goals
    rw [rowLane, Option.some.injEq] at row
    subst row
  case claimTimeout l e d place => exact (laneStep_reach s l _).trans (laneStep_unreachable _ l e)
  case presentation l p rest events => exact (laneStep_atLane s l _ _ _).trans (laneStep_takePresentation _ l p)
  case claimResult l r before after next => exact (laneStep_modLane s l _).trans (laneStep_takeResult _ l r)
  case rotation l latched before after next => exact (laneStep_modLane s l _).trans (laneStep_takeRotation _ l latched)
  case passExpiry l before after next => exact (laneStep_modLane s l _).trans (laneStep_takeExpiry _ l)
  case cancel l before after next => exact (laneStep_modLane s l _).trans (laneStep_cancel _ l)
  case linkLoss l before after next => exact (laneStep_modLane s l _).trans (laneStep_takeLinkLoss _ l)
  case linkRegained l before after next => exact (laneStep_modLane s l _).trans (laneStep_takeLinkRegained _ l)
  case emergencyEvent l before after next => exact (laneStep_modLane s l _).trans (laneStep_takeEmergency _ l)
  case latchClearing l before after next => exact (laneStep_modLane s l _).trans (laneStep_takeClearing _ l)
  case rotationEdge l inactive => exact (laneStep_modLine s l _).trans (laneStep_hand _ l _)
  case sensorLevelInactive l => exact laneStep_modLine s l _
  case passTimerExpired l d timer =>
    exact ((laneStep_reach s l _).trans (laneStep_modLine _ l _)).trans (laneStep_hand _ l _)
  case cancelTaken l takes empty =>
    exact ((laneStep_modLine s l _).trans (laneStep_modLine _ l _)).trans (laneStep_hand _ l _)
  case buttonPressed l => exact laneStep_modLine s l _
  case buttonReleased l => exact laneStep_modLine s l _
  case indicationTimeout l timed => exact (laneStep_reach s l _).trans (laneStep_modLine _ l _)

/-- Settles O58: a row of one lane is a `LaneStep`, which leaves the others as they are. -/
theorem lanesIndependent : Obligations.LanesIndependent := by
  intro i l s t row result
  obtain ⟨pins, rfl, rfl⟩ | ⟨rfl, rfl⟩ | effect := exec_cases result
  · cases row
  · cases row
  · exact (effect.laneStep row).others

end Sys2Proof.Machine
end

section
/-! SUPPORT. What a row that acts on no lane leaves of the lanes (`LanesKept`), and the few things that rows do to them
(`Touched`): the layer from which the invariants of lanes and zones are proved. -/

namespace Sys2Proof.Machine

/-! ### Steps away from the lanes -/

/-- The lanes with their lines, heads, tracker places and zones, the queue of commands and the clock stand as they
were. -/
structure LanesKept (s t : State) : Prop where
  pending : t.pending = s.pending
  lanes : t.lanes = s.lanes
  lbp : t.lbp = s.lbp
  zcu : t.zcu = s.zcu
  lines : t.tlu.lines = s.tlu.lines
  tracker : t.clt.tracker = s.clt.tracker
  clock : t.mgu.clock = s.mgu.clock

theorem LanesKept.refl (s : State) : LanesKept s s := ⟨rfl, rfl, rfl, rfl, rfl, rfl, rfl⟩

theorem LanesKept.trans {s t u : State} (first : LanesKept s t) (second : LanesKept t u) : LanesKept s u :=
  ⟨second.pending.trans first.pending, second.lanes.trans first.lanes, second.lbp.trans first.lbp,
    second.zcu.trans first.zcu, second.lines.trans first.lines, second.tracker.trans first.tracker,
    second.clock.trans first.clock⟩

theorem LanesKept.of_blocks {s t : State} (pending : t.pending = s.pending) (lanes : t.lanes = s.lanes)
    (lbp : t.lbp = s.lbp) (zcu : t.zcu = s.zcu) (tlu : t.tlu = s.tlu) (clt : t.clt = s.clt) (mgu : t.mgu = s.mgu) :
    LanesKept s t := ⟨pending, lanes, lbp, zcu, by rw [tlu], by rw [clt], by rw [mgu]⟩

section
variable {s t : State} (kept : LanesKept s t)
include kept

theorem LanesKept.lane (l : LaneNo) : t.lane l = s.lane l := State.lane_congr kept.lanes l

theorem LanesKept.head (l : LaneNo) : t.head l = s.head l := State.head_congr kept.lbp l

theorem LanesKept.zone (z : ZoneNo) : t.zone z = s.zone z := State.zone_congr kept.zcu z

theorem LanesKept.line (l : LaneNo) : t.line l = s.line l := by
  rw [State.line, State.line, kept.lines]

theorem LanesKept.place (l : LaneNo) : t.place l = s.place l := by
  rw [State.place, State.place, kept.tracker]

end

section
variable (s : State)

theorem lanesKept_report (r : Report) : LanesKept s (s.report r) := .of_blocks rfl rfl rfl rfl rfl rfl rfl

theorem lanesKept_offer (c : LocalCell) : LanesKept s (s.offer c) := .of_blocks rfl rfl rfl rfl rfl rfl rfl

theorem lanesKept_reach (m : Nat) : LanesKept s (s.reach m) := .of_blocks rfl rfl rfl rfl rfl rfl rfl

theorem lanesKept_setLog (log : List LogRecord) : LanesKept s (s.setLog log) := ⟨rfl, rfl, rfl, rfl, rfl, rfl, rfl⟩

theorem lanesKept_handVerdict (v : HandedVerdict) : LanesKept s (s.handVerdict v) := ⟨rfl, rfl, rfl, rfl, rfl, rfl, rfl⟩

theorem lanesKept_commandsLeft (rest : List MgmtCell) : LanesKept s (s.commandsLeft rest) :=
  ⟨rfl, rfl, rfl, rfl, rfl, rfl, rfl⟩

theorem lanesKept_sent (a : Answer) (c : MgmtCell) : LanesKept a.state (a.sent c) :=
  .of_blocks (by simp) (by simp) (by simp) (by simp) (by simp) (by simp) (by simp)

theorem lanesKept_deliverVerdict (t : Tag) (k : Key) (v : Verdict) (a : Nat) :
    LanesKept s (s.deliverVerdict t k v a) := by
  unfold State.deliverVerdict
  split
  · exact lanesKept_handVerdict s _
  · exact lanesKept_offer s _

theorem lanesKept_offerIntake (e : Intake) : LanesKept s (s.offerIntake e) := by
  unfold State.offerIntake
  split
  · split
    · exact .of_blocks rfl rfl rfl rfl rfl rfl rfl
    · exact lanesKept_deliverVerdict s _ _ _ _
  · exact .of_blocks rfl rfl rfl rfl rfl rfl rfl

theorem lanesKept_sendNotice (e : Intake) (k : Key) : LanesKept s (s.sendNotice e k) := by
  unfold State.sendNotice
  dsimp only
  split
  · exact lanesKept_offerIntake s e
  · exact lanesKept_offer s _

theorem lanesKept_lapse (i : HoldNo) (h : Hold) (c : LapseCause) : LanesKept s (s.lapse i h c) :=
  .of_blocks (by simp) (by simp) (by simp) (by simp) (by simp) (by simp) (by simp)

theorem lanesKept_lapseOverdue : LanesKept s s.lapseOverdue := by
  unfold State.lapseOverdue
  generalize holdNos = is
  induction is generalizing s with
  | nil => exact .refl s
  | cons i is ih =>
    exact LanesKept.trans (.of_blocks (by simp) (by simp) (by simp) (by simp) (by simp) (by simp) (by simp))
      (ih (s.lapseIfOverdue i))

theorem lanesKept_intakeLeft (rest : List Intake) : LanesKept s (s.intakeLeft rest) :=
  .of_blocks rfl rfl rfl rfl rfl rfl rfl

/-- An entry performed away from the lanes is taken away from them. -/
theorem lanesKept_takeEntry (rest : List Intake) {perform : State → State}
    (performed : ∀ s, LanesKept s (perform s)) : LanesKept s (s.takeEntry rest perform) :=
  ((lanesKept_lapseOverdue s).trans (lanesKept_intakeLeft s.lapseOverdue rest)).trans (performed _)

theorem lanesKept_decide (t : Tag) (k : Key) (a : Asked) : LanesKept s (s.decide t k a) := by
  unfold State.decide
  split
  · exact lanesKept_deliverVerdict s _ _ _ _
  · dsimp only
    split
    · exact LanesKept.trans (.of_blocks (by simp) (by simp) (by simp) (by simp) (by simp) (by simp) (by simp))
        (lanesKept_deliverVerdict _ _ _ _ _)
    · exact lanesKept_deliverVerdict s _ _ _ _

theorem lanesKept_claimTaken (t : Tag) (k : Key) (a : Asked) : LanesKept s ((s.lapseReused t).decide t k a) :=
  LanesKept.trans (.of_blocks (by simp) (by simp) (by simp) (by simp) (by simp) (by simp) (by simp))
    (lanesKept_decide _ t k a)

theorem lanesKept_applyUse (k : Key) (kind : Kind) (time : Nat) (o : UseOrigin) :
    LanesKept s (s.applyUse k kind time o) :=
  .of_blocks (by simp) (by simp) (by simp) (by simp) (by simp) (by simp) (by simp)

theorem lanesKept_performPassed (t : Tag) (k : Key) (kind : Kind) (time : Nat) :
    LanesKept s (s.performPassed t k kind time) := by
  unfold State.performPassed
  split
  · unfold State.commit
    exact .of_blocks (by simp) (by simp) (by simp) (by simp) (by simp) (by simp) (by simp)
  · exact lanesKept_applyUse s _ _ _ _

theorem lanesKept_performAbandon (t : Tag) (k : Key) : LanesKept s (s.performAbandon t k) := by
  unfold State.performAbandon
  split
  · exact .of_blocks (by simp) (by simp) (by simp) (by simp) (by simp) (by simp) (by simp)
  · exact .of_blocks rfl rfl rfl rfl rfl rfl rfl

theorem lanesKept_lateVerdict (v : HandedVerdict) (name : Verdict) : LanesKept s (s.lateVerdict v name) := by
  unfold State.lateVerdict
  dsimp only
  refine LanesKept.trans (t := { s with clt := { s.clt with lateVerdicts := bump s.clt.lateVerdicts } })
    ⟨rfl, rfl, rfl, rfl, rfl, rfl, rfl⟩ ?_
  split
  · split
    · exact lanesKept_offerIntake _ _
    · exact lanesKept_offer _ _
  · exact .refl _

theorem lanesKept_goodCell : LanesKept s s.goodCell := by
  unfold State.goodCell
  split <;> exact .of_blocks rfl rfl rfl rfl rfl rfl rfl

theorem lanesKept_countRing (f : RingCounters → RingCounters) : LanesKept s (s.countRing f) :=
  .of_blocks rfl rfl rfl rfl rfl rfl rfl

theorem Mgu.join_clock (m : Mgu) (c : MgmtCell) : (m.join c).clock = m.clock := by
  unfold Mgu.join
  split <;> rfl

theorem lanesKept_consume (cell : List Byte) : LanesKept s (s.consume cell) := by
  unfold State.consume
  split
  · exact lanesKept_offerIntake s _
  · split
    · exact lanesKept_handVerdict s _
    · split
      · exact ⟨rfl, rfl, rfl, rfl, rfl, rfl, s.mgu.join_clock _⟩
      · exact lanesKept_countRing s _

theorem lanesKept_forward (cell : List Byte) : LanesKept s (s.forward cell) := by
  unfold State.forward
  split
  · exact .of_blocks rfl rfl rfl rfl rfl rfl rfl
  · exact lanesKept_countRing s _

theorem lanesKept_lateUseReturned (lane : Nat) (k : Key) (kind : Kind) (time : Nat) :
    LanesKept s (s.lateUseReturned lane k kind time) := by
  unfold State.lateUseReturned
  split <;> exact ⟨rfl, rfl, rfl, rfl, rfl, rfl, rfl⟩

/-- Only a CLAIM cell of this part that is returned acts on a lane: the lane of its tag. -/
theorem handleCell_cases (cell : List Byte) :
    LanesKept s (s.handleCell cell) ∨
      ∃ l e, s.place l = some e ∧ s.handleCell cell = s.unreachable l e := by
  unfold State.handleCell
  split
  · exact .inl (.refl s)
  split
  · exact .inl (lanesKept_consume s cell)
  split
  · unfold State.returned
    split
    · unfold State.claimReturned
      split
      · split
        · split
          · exact .inr ⟨_, _, ‹_›, rfl⟩
          · exact .inl (.refl s)
        · exact .inl (.refl s)
      · exact .inl (.refl s)
    · exact .inl (lanesKept_lateUseReturned s _ _ _ _)
    · exact .inl (lanesKept_countRing s _)
  split
  · exact .inl (lanesKept_countRing s _)
  · exact .inl (lanesKept_forward s cell)

theorem lanesKept_ringFallen : LanesKept s s.ringFallen := .of_blocks rfl rfl rfl rfl rfl rfl rfl

theorem lanesKept_onKey (k : Key) {run : Nat → Record → Answer} (kept : ∀ p r, LanesKept s (run p r).state) :
    LanesKept s (s.onKey k run).state := by
  unfold State.onKey
  (repeat' split)
  case h_2 => exact kept _ _
  all_goals exact .refl s

theorem lanesKept_loadRecord (im : Image) : LanesKept s (s.loadRecord im).1 := by
  unfold State.loadRecord
  split <;> exact .of_blocks rfl rfl rfl rfl rfl rfl rfl

theorem lanesKept_loadFinished (first : Status) (second : Option Status) :
    LanesKept s (s.loadFinished first second).state := by
  unfold State.loadFinished
  (repeat' split) <;> exact .of_blocks rfl rfl rfl rfl rfl rfl rfl

theorem lanesKept_loadFirstAlone (im : Image) : LanesKept s (s.loadFirstAlone im) :=
  (lanesKept_loadRecord s im).trans ⟨rfl, rfl, rfl, rfl, rfl, rfl, rfl⟩

theorem lanesKept_loadRecords (count : Nat) (first second : Image) :
    LanesKept s (s.loadRecords count first second).state := by
  have firstTaken : LanesKept s (match s.mgu.firstLoaded with
      | some st1 => (({ s with mgu := { s.mgu with firstLoaded := none } } : State), st1)
      | none => s.loadRecord first).1 := by
    split
    · exact ⟨rfl, rfl, rfl, rfl, rfl, rfl, rfl⟩
    · exact lanesKept_loadRecord s first
  unfold State.loadRecords
  split
  · exact .refl s
  · dsimp only
    split
    · exact (firstTaken.trans (lanesKept_loadRecord _ second)).trans (lanesKept_loadFinished _ _ _)
    · exact firstTaken.trans (lanesKept_loadFinished _ _ _)

end

/-! ### What touches the lanes -/

/-- The parts of a row's effect that act on lanes, heads, zones or the clock. -/
inductive Touched (s : State) : State → Prop
  | reset (pins : Pins) : Touched s (s.resetBlocks pins)
  | quotaSet (z : ZoneNo) (q : Nat) : Touched s (s.modZone z fun r => { r with quota := q })
  | underflowRead (z : ZoneNo) : Touched s (s.modZone z fun r => { r with underflow := 0 })
  | clockSet (t : Nat) : Touched s { s with mgu := { s.mgu with clock := some t, nextSecond := s.timebase + 1000 } }
  | laneOpened (l : LaneNo) (fitted : (s.lane l).config.fitted = true) (clock : s.mgu.clock ≠ none) :
    Touched s
      (if (s.lane l).state = .closed then
        s.atLane l (fun ln => { ln with openIntent := true, state := .idle }) id fun x => { x with cancelSet := false }
      else s.modLane l fun ln => { ln with openIntent := true })
  | laneClosed (l : LaneNo) :
    Touched s
      (if (s.lane l).state = .idle then
        s.atLane l (fun ln => { ln with openIntent := false, state := .closed }) id
          fun x => { x with cancelSet := false, indication := .dark, shownSince := s.timebase }
      else s.modLane l fun ln => { ln with openIntent := false })
  | laneReset (l : LaneNo) : Touched s (s.resetLane l)
  | exitReleased (l : LaneNo) (idle : (s.lane l).state = .idle) (direction : (s.lane l).config.direction = .exit) :
    Touched s (s.beginPassage l ⟨.manual, none, none⟩ .grant)
  | entryReleased (l : LaneNo) (idle : (s.lane l).state = .idle) (direction : (s.lane l).config.direction = .entry) :
    Touched s (((s.serveZoneAll l).reserve l).beginPassage l ⟨.manual, none, none⟩ .grant)
  | zoneFull (l : LaneNo) : Touched s (s.serveZoneAll l)
  | countersCleared (l : LaneNo) : Touched s (s.count l fun _ => .zero)
  | configured (l : LaneNo) (c : LaneConfig) (closed : (s.lane l).state = .closed)
    (windows : (2 ≤ c.passWindow ∧ c.passWindow ≤ 30) ∧ c.echoWindow ≤ 5 ∧ (1 ≤ c.staleLimit ∧ c.staleLimit ≤ 10)) :
    Touched s (s.configure l c)
  | allHanded (e : LaneEvent) (told : e = .emergency ∨ e = .latchClearing) : Touched s (s.handAll e)
  | bus {t : State} (effect : BusEffect s t) : Touched s t
  | unreachable (l : LaneNo) (e : TrackerEntry) (place : s.place l = some e) : Touched s (s.unreachable l e)
  | ringDown : Touched s (laneNos.foldl State.unreachableIfRemote s)
  | answered (l : LaneNo) (e : TrackerEntry) (v : Verdict) (a : Nat) (place : s.place l = some e) :
    Touched s ((s.setPlace l none).handResult l (.verdict v a))
  | secondPassed (t : Nat) (clock : s.mgu.clock = some t) : Touched s (s.secondPassed t)
  | lane {i : Instr} {l : LaneNo} {t : State} (row : rowLane i = some l) (effect : Effect s i t) : Touched s t

/-- A step that touches the lanes, with what it does away from them before and after. -/
def LanesTouched (s t : State) : Prop := ∃ s1 t1, LanesKept s s1 ∧ Touched s1 t1 ∧ LanesKept t1 t

theorem Touched.lanesTouched {s t : State} (touched : Touched s t) : LanesTouched s t :=
  ⟨s, t, .refl s, touched, .refl t⟩

theorem configOf_windows {fitted : Bool} {direction : Byte} {zone : Nat} {classes : BitVec 16} {priority : Byte}
    {pw ew sl : Nat} {policy : Byte} {c : LaneConfig}
    (config : configOf fitted direction zone classes priority pw ew sl policy = some c) :
    (2 ≤ c.passWindow ∧ c.passWindow ≤ 30) ∧ c.echoWindow ≤ 5 ∧ (1 ≤ c.staleLimit ∧ c.staleLimit ≤ 10) := by
  unfold configOf at config
  split at config
  · split at config
    · cases config
      simp only [clamp]
      omega
    · cases config
  · cases config

/-- What a command for a lane does to the part. -/
theorem Command.run_touched {d : Command} {n : Nat} (named : d.laneNamed = some n) (s : State) :
    LanesKept s (d.run s).state ∨ LanesTouched s (d.run s).state := by
  by_cases above : 15 < n
  · rw [Command.run_of_above named above]
    exact .inl (.refl s)
  obtain ⟨l, rfl⟩ : ∃ l : LaneNo, n = l.val := ⟨⟨n, by omega⟩, rfl⟩
  cases d <;> simp only [Command.laneNamed, Option.some.injEq, reduceCtorEq] at named <;> subst named
  case setLane fitted direction zone classes priority pw ew sl policy =>
    have drawn : LanesKept s (s.fittedOf fitted).2 := by
      unfold State.fittedOf
      (repeat' split) <;> exact .of_blocks rfl rfl rfl rfl rfl rfl rfl
    simp only [Command.run, State.setLane, State.onLane_val]
    split
    · exact .inl (.refl s)
    next c config =>
      split
      · exact .inl (.refl s)
      next closed =>
        refine .inr ⟨_, _, drawn, .configured l c ?_ (configOf_windows config), .refl _⟩
        rw [drawn.lane]
        exact not_not.mp closed
  case laneOpen =>
    rw [Command.run]
    cases fitted : (s.lane l).config.fitted with
    | false =>
      rw [State.laneOpen_unfitted fitted]
      exact .inl (.refl s)
    | true =>
      by_cases clock : s.mgu.clock = none
      · rw [State.laneOpen_noClock fitted clock]
        exact .inl (.refl s)
      · rw [State.laneOpen_taken fitted clock]
        exact .inr (Touched.laneOpened l fitted clock).lanesTouched
  case laneClose =>
    rw [Command.run, State.laneClose_val]
    exact .inr (Touched.laneClosed l).lanesTouched
  case laneReset =>
    rw [Command.run, State.laneReset_val]
    exact .inr (Touched.laneReset l).lanesTouched
  case laneRelease =>
    rw [Command.run]
    by_cases idle : (s.lane l).state = .idle
    · cases direction : (s.lane l).config.direction with
      | exit =>
        rw [State.laneRelease_exit idle direction]
        exact .inr (Touched.exitReleased l idle direction).lanesTouched
      | entry =>
        rw [State.laneRelease_entry idle direction]
        split
        · exact .inr (Touched.entryReleased l idle direction).lanesTouched
        · exact .inr (Touched.zoneFull l).lanesTouched
    · rw [State.laneRelease_notIdle idle]
      exact .inl (.refl s)
  case readLane clear =>
    rw [Command.run, State.readLane_val]
    cases clear with
    | false => exact .inl (.refl s)
    | true => exact .inr (Touched.countersCleared l).lanesTouched

/-- What the other commands do to the lanes: the table's nothing. -/
theorem Command.run_kept_or_touched (d : Command) (s : State) :
    LanesKept s (d.run s).state ∨ LanesTouched s (d.run s).state := by
  cases named : d.laneNamed with
  | some n => exact d.run_touched named s
  | none =>
    cases d
    case setLane | laneOpen | laneClose | laneReset | laneRelease | readLane => cases named
    case putRecord im =>
      left
      simp only [Command.run, State.putRecord]
      split <;> exact .of_blocks rfl rfl rfl rfl rfl rfl rfl
    case loadOpen count =>
      left
      simp only [Command.run, State.loadOpen]
      (repeat' split) <;> exact .of_blocks rfl rfl rfl rfl rfl rfl rfl
    case loadRecords count first second => exact .inl (lanesKept_loadRecords s count first second)
    case loadAbort =>
      left
      simp only [Command.run, State.loadAbort]
      (repeat' split) <;> exact .of_blocks rfl rfl rfl rfl rfl rfl rfl
    case voidKey k => exact .inl (lanesKept_onKey s k fun _ _ => .of_blocks rfl rfl rfl rfl rfl rfl rfl)
    case restoreKey k => exact .inl (lanesKept_onKey s k fun _ _ => .of_blocks rfl rfl rfl rfl rfl rfl rfl)
    case dropKey k =>
      refine .inl (lanesKept_onKey s k fun _ _ => ?_)
      split <;> exact .of_blocks rfl rfl rfl rfl rfl rfl rfl
    case queryKey k => exact .inl (lanesKept_onKey s k fun _ _ => .refl s)
    case setZone zone quota =>
      simp only [Command.run, State.setZone, State.onZone]
      split
      · exact .inr (Touched.quotaSet _ quota).lanesTouched
      · exact .inl (.refl s)
    case readZone zone clear =>
      simp only [Command.run, State.readZone, State.onZone]
      split
      · cases clear with
        | false => exact .inl (.refl s)
        | true => exact .inr (Touched.underflowRead _).lanesTouched
      · exact .inl (.refl s)
    case setClock second => exact .inr (Touched.clockSet _).lanesTouched
    case setGate => exact .inl ⟨rfl, rfl, rfl, rfl, rfl, rfl, rfl⟩
    case readGate clear =>
      left
      cases clear <;> exact ⟨rfl, rfl, rfl, rfl, rfl, rfl, rfl⟩
    case emergencyClear =>
      simp only [Command.run, State.emergencyClear]
      split
      · exact .inl (.refl s)
      · split
        · exact .inr ⟨{ s with tlu := { s.tlu with latched := false } }, _, ⟨rfl, rfl, rfl, rfl, rfl, rfl, rfl⟩,
            .allHanded .latchClearing (.inr rfl), .refl _⟩
        · exact .inl (.refl s)
    case gateClear | unknown => exact .inl (.refl s)

theorem LanesTouched.after {s t u : State} (touched : LanesTouched t u) (before : LanesKept s t) : LanesTouched s u := by
  obtain ⟨s1, t1, first, effect, last⟩ := touched
  exact ⟨s1, t1, before.trans first, effect, last⟩

theorem LanesTouched.before {s t u : State} (touched : LanesTouched s t) (after : LanesKept t u) : LanesTouched s u := by
  obtain ⟨s1, t1, first, effect, last⟩ := touched
  exact ⟨s1, t1, first, effect, last.trans after⟩

theorem lanesKept_reportReset (s : State) (pins : Pins) : LanesKept s (s.reportReset pins) := by
  unfold State.reportReset
  split
  · exact lanesKept_report s _
  · exact .refl s

/-- What POWER_ON does to the lanes. -/
theorem poweredOn_touched (s : State) (pins : Pins) : LanesTouched s (s.poweredOn pins) :=
  ⟨s, s.resetBlocks pins, .refl s, .reset pins,
    LanesKept.trans (t := { s.resetBlocks pins with grp := { (s.resetBlocks pins).grp with sending := [] } })
      (.of_blocks rfl rfl rfl rfl rfl rfl rfl) (lanesKept_reportReset _ pins)⟩

/-- A management row's effect acts away from the lanes, or touches them between two steps that do not. -/
theorem ManagementEffect.touched {s t : State} {pins : Pins} {c : MgmtCell} {rest : List MgmtCell}
    (effect : ManagementEffect s pins c rest t) : LanesKept s t ∨ LanesTouched s t := by
  cases effect with
  | gateClear =>
    exact .inr ⟨s, s.resetBlocks pins, .refl s, .reset pins,
      (lanesKept_offer _ _).trans (lanesKept_reportReset _ pins)⟩
  | badStrap => exact .inl ((lanesKept_commandsLeft s rest).trans (lanesKept_offer _ _))
  | carriedOut =>
    obtain kept | touched := c.command.run_kept_or_touched (s.commandsLeft rest)
    · exact .inl (((lanesKept_commandsLeft s rest).trans kept).trans (lanesKept_sent _ c))
    · exact .inr ((touched.after (lanesKept_commandsLeft s rest)).before (lanesKept_sent _ c))
  | firstAlone first => exact .inl (lanesKept_loadFirstAlone s first)

/-- Every effect acts away from the lanes, or touches them between two steps that do not. -/
theorem Effect.touched {s t : State} {i : Instr} (effect : Effect s i t) : LanesKept s t ∨ LanesTouched s t := by
  cases row : rowLane i with
  | some l => exact .inr (Touched.lane row effect).lanesTouched
  | none =>
    cases effect
    case notDue => exact .inl (.refl s)
    case management effect => exact effect.touched
    case bus effect => exact .inr (Touched.bus effect).lanesTouched
    case zoneServed l named => cases row.symm.trans named
    case sweepComplete => exact .inl (.of_blocks rfl rfl rfl rfl rfl rfl rfl)
    case badCell => exact .inl (lanesKept_countRing s _)
    case goodCell cell =>
      obtain kept | ⟨l, e, place, claim⟩ := handleCell_cases s.goodCell cell
      · exact .inl ((lanesKept_goodCell s).trans kept)
      · rw [claim]
        exact .inr ⟨s.goodCell, _, lanesKept_goodCell s, .unreachable l e place, .refl _⟩
    case ringDown => exact .inr ⟨s.ringFallen, _, lanesKept_ringFallen s, .ringDown, .refl _⟩
    case outputCellEnd => exact .inl (.of_blocks rfl rfl rfl rfl rfl rfl rfl)
    case claim => exact .inl (lanesKept_takeEntry s _ fun x => lanesKept_claimTaken x _ _ _)
    case passed => exact .inl (lanesKept_takeEntry s _ fun x => lanesKept_performPassed x _ _ _ _)
    case abandon => exact .inl (lanesKept_takeEntry s _ fun x => lanesKept_performAbandon x _ _)
    case lateUse => exact .inl (lanesKept_takeEntry s _ fun x => lanesKept_applyUse x _ _ _ _)
    case holdDeadline h _ => exact .inl ((lanesKept_reach s h.deadline).trans (lanesKept_lapse _ _ h _))
    case verdict v rest inbox =>
      have taken : LanesKept s { s with clt := { s.clt with inbox := rest } } := ⟨rfl, rfl, rfl, rfl, rfl, rfl, rfl⟩
      unfold State.takeVerdict
      split
      · exact .inl (taken.trans ⟨rfl, rfl, rfl, rfl, rfl, rfl, rfl⟩)
      · split
        next l matched =>
          have tracked : ∃ e, s.place l = some e := by
            unfold State.matchedClaim at matched
            split at matched
            · split at matched
              next e place =>
                split at matched
                · cases matched
                  exact ⟨e, place⟩
                · cases matched
              · cases matched
            · cases matched
          obtain ⟨e, place⟩ := tracked
          exact .inr ⟨_, _, taken, .answered l e _ _ place, .refl _⟩
        · exact .inl (taken.trans (lanesKept_lateVerdict _ v _))
    case drainLateUse => exact .inl ((lanesKept_setLog s _).trans (lanesKept_sendNotice _ _ _))
    case inputActive => exact .inl ⟨rfl, rfl, rfl, rfl, rfl, rfl, rfl⟩
    case inputInactive => exact .inl ⟨rfl, rfl, rfl, rfl, rfl, rfl, rfl⟩
    case emergencyEdge =>
      exact .inr ⟨{ s with tlu := { s.tlu with inputActive := true, latched := true, setAt := s.timebase } }, _,
        ⟨rfl, rfl, rfl, rfl, rfl, rfl, rfl⟩, .allHanded .emergency (.inl rfl), lanesKept_report _ _⟩
    case clockSecond t clock => exact .inr (Touched.secondPassed t clock).lanesTouched
    all_goals cases row

end Sys2Proof.Machine
end

section
/-! SUPPORT. Two facts of every row: the queue of commands stands, and the event clock does not fall (R167). -/

namespace Sys2Proof.Machine

/-! ### The queue of commands -/

theorem missed_frame (s : State) (l : LaneNo) :
    (s.missed l).pending = s.pending ∧ (s.missed l).zcu = s.zcu ∧ (s.missed l).mgu = s.mgu := by
  unfold State.missed
  (repeat' split) <;> exact ⟨rfl, rfl, rfl⟩

/-- The lane bus touches no block but its own and the lanes. -/
theorem BusEffect.frame {s t : State} (effect : BusEffect s t) :
    t.pending = s.pending ∧ t.zcu = s.zcu ∧ t.mgu = s.mgu := by
  cases effect with
  | pollBegun | fetchBegun | deliveryBegun => exact ⟨rfl, rfl, rfl⟩
  | polled l count room underWay =>
    unfold State.polled
    (repeat' split) <;> exact ⟨rfl, rfl, rfl⟩
  | missed l underWay => exact missed_frame s.busFree l
  | fetched l answer underWay =>
    unfold State.fetched
    (repeat' split) <;> exact ⟨rfl, rfl, rfl⟩
  | acknowledged l d gone underWay => split <;> exact ⟨rfl, rfl, rfl⟩
  | undelivered l d gone underWay =>
    unfold State.undelivered
    dsimp only
    split
    · exact missed_frame s.busFree l
    · exact missed_frame s.busFree l

theorem State.unreachableIfRemote_cases (s : State) (l : LaneNo) :
    s.unreachableIfRemote l = s ∨ ∃ e, s.place l = some e ∧ s.unreachableIfRemote l = s.unreachable l e := by
  unfold State.unreachableIfRemote
  split
  · split
    · exact .inr ⟨_, ‹_›, rfl⟩
    · exact .inl rfl
  · exact .inl rfl

/-- What each lane's claim found unreachable keeps, the fall of the ring keeps. -/
theorem unreachableAll_keeps {P : State → Prop} {s : State} (holds : P s)
    (keeps : ∀ s l e, P s → s.place l = some e → P (s.unreachable l e)) :
    P (laneNos.foldl State.unreachableIfRemote s) := by
  generalize laneNos = ls
  induction ls generalizing s with
  | nil => exact holds
  | cons l ls ih =>
    refine ih ?_
    obtain same | ⟨e, place, ended⟩ := s.unreachableIfRemote_cases l
    · rwa [same]
    · rw [ended]
      exact keeps s l e holds place

theorem configure_frame (s : State) (l : LaneNo) (c : LaneConfig) :
    (s.configure l c).pending = s.pending ∧ (s.configure l c).mgu = s.mgu := by
  by_cases loses : (s.lane l).config.fitted = true ∧ c.fitted = false
  · rw [State.configure_unfitting loses.1 loses.2]
    exact ⟨rfl, rfl⟩
  · rw [State.configure_keeping (by simpa [imp_iff_not_or] using loses)]
    exact ⟨rfl, rfl⟩

theorem resetLane_frame (s : State) (l : LaneNo) :
    (s.resetLane l).pending = s.pending ∧ (s.resetLane l).mgu = s.mgu := by
  rw [State.resetLane_eq]
  simp [State.withoutDelivery]

theorem Touched.pending {s t : State} (touched : Touched s t) : t.pending = s.pending := by
  cases touched with
  | laneOpened l => split <;> rfl
  | laneClosed l => split <;> rfl
  | laneReset l => exact (resetLane_frame s l).1
  | exitReleased l => simp
  | entryReleased l => simp
  | zoneFull l => simp
  | configured l c => exact (configure_frame s l c).1
  | bus effect => exact effect.frame.1
  | unreachable l e => simp
  | ringDown => exact unreachableAll_keeps (P := fun x => x.pending = s.pending) rfl fun x l e same _ => by simp [same]
  | lane row effect => exact (effect.laneStep row).core.pending
  | _ => rfl

theorem LanesTouched.pending {s t : State} (touched : LanesTouched s t) : t.pending = s.pending := by
  obtain ⟨s1, t1, first, effect, last⟩ := touched
  exact (last.pending.trans effect.pending).trans first.pending

/-- Settles O2: a row always completes, and what it touches is never the queue. -/
theorem everyCommandCompletes : Obligations.EveryCommandCompletes := by
  intro i s
  obtain ⟨t, result⟩ := exec_completes i s
  refine ⟨t, result, ?_⟩
  obtain ⟨pins, -, rfl⟩ | ⟨-, rfl⟩ | effect := exec_cases result
  · exact (poweredOn_touched s pins).pending
  · rfl
  · obtain kept | touched := effect.touched
    · exact kept.pending
    · exact touched.pending

/-! ### The clock -/

/-- No command but SET_CLOCK, carried out, touches the clock. -/
theorem Command.run_clock {d : Command} (other : ∀ second, d ≠ .setClock second) (s : State) :
    (d.run s).state.mgu.clock = s.mgu.clock := by
  cases d
  case setClock second => exact absurd rfl (other second)
  case setLane =>
    simp only [Command.run, State.setLane, State.onLane, State.fittedOf]
    (repeat' split) <;> simp [State.refuse, (configure_frame _ _ _).2]
  case laneOpen =>
    simp only [Command.run, State.laneOpen, State.onLane]
    (repeat' split) <;> rfl
  case laneClose =>
    simp only [Command.run, State.laneClose, State.onLane]
    (repeat' split) <;> rfl
  case laneReset =>
    simp only [Command.run, State.laneReset, State.onLane]
    split
    · simp [State.accept, (resetLane_frame s _).2]
    · rfl
  case laneRelease =>
    simp only [Command.run, State.laneRelease, State.onLane]
    (repeat' split) <;> simp [State.accept, State.refuse]
  case readLane lane clear =>
    simp only [Command.run, State.readLane, State.onLane]
    cases clear <;> (split <;> rfl)
  case setZone =>
    simp only [Command.run, State.setZone, State.onZone]
    split <;> rfl
  case readZone zone clear =>
    simp only [Command.run, State.readZone, State.onZone]
    cases clear <;> (split <;> rfl)
  case emergencyClear =>
    simp only [Command.run, State.emergencyClear]
    (repeat' split) <;> rfl
  case putRecord im =>
    simp only [Command.run, State.putRecord]
    split <;> rfl
  case loadOpen =>
    simp only [Command.run, State.loadOpen]
    (repeat' split) <;> rfl
  case loadRecords count first second => exact (lanesKept_loadRecords s count first second).clock
  case loadAbort =>
    simp only [Command.run, State.loadAbort]
    (repeat' split) <;> rfl
  case voidKey k => exact (lanesKept_onKey s k fun _ _ => .of_blocks rfl rfl rfl rfl rfl rfl rfl).clock
  case restoreKey k => exact (lanesKept_onKey s k fun _ _ => .of_blocks rfl rfl rfl rfl rfl rfl rfl).clock
  case dropKey k =>
    refine (lanesKept_onKey s k fun _ _ => ?_).clock
    split <;> exact .of_blocks rfl rfl rfl rfl rfl rfl rfl
  case queryKey k => exact (lanesKept_onKey s k fun _ _ => .refl s).clock
  case readGate clear => cases clear <;> rfl
  case setGate | gateClear | unknown => rfl

/-- An effect keeps the clock, brings its next second, or is one of the rows that set it anew. -/
theorem Effect.clock {s t : State} {i : Instr} (effect : Effect s i t) (notSet : i ≠ .setClock)
    (notClear : ∀ pins, i ≠ .gateClear pins) :
    t.mgu.clock = s.mgu.clock ∨ ∃ v, s.mgu.clock = some v ∧ t = s.secondPassed v := by
  cases row : rowLane i with
  | some l => exact .inl (congrArg Mgu.clock (effect.laneStep row).core.mgu)
  | none =>
    have kept_clock (kept : LanesKept s t) : t.mgu.clock = s.mgu.clock := kept.clock
    cases effect
    case clockSecond v clock => exact .inr ⟨v, clock, rfl⟩
    case management pins access c rest head named effect =>
      left
      cases effect with
      | gateClear command => exact absurd (by rw [← named, command]; rfl) (notClear pins)
      | badStrap => rfl
      | carriedOut =>
        rw [(lanesKept_sent _ c).clock, Command.run_clock fun second command => ?_]
        · rfl
        · exact notSet (by rw [← named, command]; rfl)
      | firstAlone first => exact (lanesKept_loadFirstAlone s first).clock
    case bus effect => exact .inl (congrArg Mgu.clock effect.frame.2.2)
    case goodCell cell =>
      left
      obtain kept | ⟨l, e, place, claim⟩ := handleCell_cases s.goodCell cell
      · exact ((lanesKept_goodCell s).trans kept).clock
      · rw [claim]
        simp [(lanesKept_goodCell s).clock]
    case ringDown =>
      exact .inl (unreachableAll_keeps (P := fun x => x.mgu.clock = s.mgu.clock) rfl fun x l e same _ => by simp [same])
    case claim => exact .inl (lanesKept_takeEntry s _ fun x => lanesKept_claimTaken x _ _ _).clock
    case passed => exact .inl (lanesKept_takeEntry s _ fun x => lanesKept_performPassed x _ _ _ _).clock
    case abandon => exact .inl (lanesKept_takeEntry s _ fun x => lanesKept_performAbandon x _ _).clock
    case lateUse => exact .inl (lanesKept_takeEntry s _ fun x => lanesKept_applyUse x _ _ _ _).clock
    case holdDeadline h _ => exact .inl ((lanesKept_reach s h.deadline).trans (lanesKept_lapse _ _ h _)).clock
    case verdict v rest inbox =>
      left
      unfold State.takeVerdict
      split
      · rfl
      · split
        · rfl
        · exact (lanesKept_lateVerdict _ v _).clock
    case drainLateUse => exact .inl ((lanesKept_setLog s _).trans (lanesKept_sendNotice _ _ _)).clock
    case zoneServed l named => cases row.symm.trans named
    case notDue | sweepComplete | badCell | outputCellEnd | inputActive | inputInactive | emergencyEdge => exact .inl rfl
    all_goals cases row

/-- Settles O24: the clock stands or counts up, but where SET_CLOCK or a reset sets it anew. -/
theorem clockNeverFallsOtherwise : Obligations.ClockNeverFallsOtherwise := by
  intro i s t v result clock notSet notPowerOn notClear
  obtain ⟨pins, rfl, -⟩ | ⟨-, rfl⟩ | effect := exec_cases result
  · exact absurd rfl (notPowerOn pins)
  · exact ⟨v, clock, le_rfl⟩
  · obtain same | ⟨w, held, rfl⟩ := effect.clock notSet notClear
    · exact ⟨v, same.trans clock, le_rfl⟩
    · cases clock.symm.trans held
      refine ⟨_, rfl, ?_⟩
      split <;> omega

end Sys2Proof.Machine
end

section
/-! SUPPORT. The places of the zones (09_zone_counts.md): held by lanes, on their way back, and reserved
(`State.ZonesSound`). -/

namespace Sys2Proof.Machine

/-! ### Counting places -/

/-- The places of a zone that a lane holds: one or none. -/
def Lane.placesOf (ln : Lane) (z : ZoneNo) : Nat := if ln.holdsPlace && ln.config.zone == z then 1 else 0

theorem laneNos_eq : laneNos = List.finRange 16 := by decide

theorem laneNos_nodup : laneNos.Nodup := by rw [laneNos_eq]; exact List.nodup_finRange 16

theorem mem_laneNos (l : LaneNo) : l ∈ laneNos := by rw [laneNos_eq]; exact List.mem_finRange l

/-- Two predicates that agree off one item count a list alike, but for that item. -/
theorem countP_off_one {α : Type} {ls : List α} (nodup : ls.Nodup) {p q : α → Bool} {a : α} (mem : a ∈ ls)
    (agree : ∀ b, b ≠ a → q b = p b) :
    ls.countP q + (if p a then 1 else 0) = ls.countP p + if q a then 1 else 0 := by
  induction ls with
  | nil => cases mem
  | cons b ls ih =>
    rw [List.nodup_cons] at nodup
    obtain ⟨notMem, nodup⟩ := nodup
    rw [List.countP_cons, List.countP_cons]
    by_cases same : b = a
    · subst same
      have rest : ls.countP q = ls.countP p :=
        List.countP_congr fun x mem => by rw [agree x fun same => notMem (same ▸ mem)]
      omega
    · have later := ih nodup ((List.mem_cons.mp mem).resolve_left (Ne.symm same))
      rw [agree b same]
      omega

theorem placesHeld_eq_countP (s : State) (z : ZoneNo) :
    s.placesHeld z = laneNos.countP fun l => (s.lane l).holdsPlace && (s.lane l).config.zone == z :=
  List.countP_eq_length_filter.symm

/-- A step of one lane changes the places held of a zone by what that lane holds. -/
theorem placesHeld_of_others {s t : State} {l : LaneNo} (others : ∀ m, m ≠ l → t.lane m = s.lane m) (z : ZoneNo) :
    t.placesHeld z + (s.lane l).placesOf z = s.placesHeld z + (t.lane l).placesOf z := by
  rw [placesHeld_eq_countP, placesHeld_eq_countP]
  exact countP_off_one (p := fun m => (s.lane m).holdsPlace && (s.lane m).config.zone == z)
    (q := fun m => (t.lane m).holdsPlace && (t.lane m).config.zone == z) laneNos_nodup (mem_laneNos l)
    fun m ne => by rw [others m ne]

theorem placesHeld_congr {s t : State}
    (same : ∀ l, (t.lane l).state = (s.lane l).state ∧ (t.lane l).config = (s.lane l).config) (z : ZoneNo) :
    t.placesHeld z = s.placesHeld z := by
  rw [placesHeld_eq_countP, placesHeld_eq_countP]
  refine List.countP_congr fun l _ => ?_
  rw [Lane.holdsPlace, Lane.holdsPlace, (same l).1, (same l).2]

/-! ### The invariant through a step -/

/-- Lanes that keep their states and configurations, and zones that stand, keep the balance. -/
theorem State.ZonesSound.of_same {s t : State} (sound : s.ZonesSound)
    (same : ∀ l, (t.lane l).state = (s.lane l).state ∧ (t.lane l).config = (s.lane l).config)
    (reserved : ∀ z, (t.zone z).reserved = (s.zone z).reserved) (requests : t.zcu.requests = s.zcu.requests) :
    t.ZonesSound where
  reserved z := by
    rw [reserved, sound.reserved, placesHeld_congr same, State.placesReturning, State.placesReturning, requests]
  onePlace l := by
    rw [requests, Lane.holdsPlace, (same l).1, (same l).2]
    exact sound.onePlace l

theorem State.ZonesSound.of_kept {s t : State} (sound : s.ZonesSound) (kept : LanesKept s t) : t.ZonesSound :=
  sound.of_same (fun l => by rw [kept.lane]; exact ⟨rfl, rfl⟩) (fun z => by rw [kept.zone]) (by rw [kept.zcu])

/-- How many of some requests give a place of a zone back. -/
def returningOf (rs : List ZoneRequest) (z : ZoneNo) : Nat := rs.countP fun r => r.givesBack && r.zone == z

theorem placesReturning_eq (s : State) (z : ZoneNo) : s.placesReturning z = returningOf s.zcu.requests z :=
  List.countP_eq_length_filter.symm

/-- How many of some requests give a place of a lane back. -/
def returningBy (rs : List ZoneRequest) (l : LaneNo) : Nat := rs.countP fun r => r.givesBack && r.lane == l

theorem returningBy_eq (s : State) (l : LaneNo) :
    (s.zcu.requests.filter fun r => r.givesBack && r.lane == l).length = returningBy s.zcu.requests l :=
  List.countP_eq_length_filter.symm

theorem returningBy_of_filter {rs qs : List ZoneRequest} {l : LaneNo}
    (same : (qs.filter fun r => r.lane == l) = rs.filter fun r => r.lane == l) : returningBy qs l = returningBy rs l := by
  have split (xs : List ZoneRequest) : returningBy xs l = (xs.filter fun r => r.lane == l).countP (·.givesBack) := by
    rw [List.countP_filter]
    rfl
  rw [split, split, same]

/-- A step of one lane keeps the balance when that lane's places, the requests and the zones change together. -/
theorem State.ZonesSound.laneStep {s t : State} {l : LaneNo} (sound : s.ZonesSound) (step : LaneStep l s t)
    (balance : ∀ z, (t.zone z).reserved + ((s.lane l).placesOf z + s.placesReturning z) =
      (s.zone z).reserved + ((t.lane l).placesOf z + t.placesReturning z))
    (one : (if (t.lane l).holdsPlace then 1 else 0) + returningBy t.zcu.requests l ≤ 1) : t.ZonesSound where
  reserved z := by
    have held := placesHeld_of_others step.others.lane z
    have before := sound.reserved z
    have after := balance z
    omega
  onePlace m := by
    rw [returningBy_eq]
    by_cases same : m = l
    · rw [same]
      exact one
    · rw [step.others.lane m same, returningBy_of_filter (step.others.requests m same), ← returningBy_eq]
      exact sound.onePlace m

/-! ### A lane that keeps what it holds -/

section
variable {s t : State} {l : LaneNo}

/-- A step of one lane that keeps its hold on its place, and leaves the zones. -/
theorem State.ZonesSound.keeps (sound : s.ZonesSound) (step : LaneStep l s t) (zcu : t.zcu = s.zcu)
    (holds : (t.lane l).holdsPlace = (s.lane l).holdsPlace)
    (config : (s.lane l).holdsPlace = true → (t.lane l).config = (s.lane l).config) : t.ZonesSound := by
  refine sound.laneStep step (fun z => ?_) ?_
  · have places : (t.lane l).placesOf z = (s.lane l).placesOf z := by
      unfold Lane.placesOf
      rw [holds]
      cases held : (s.lane l).holdsPlace with
      | true => rw [config held]
      | false => rfl
    rw [places, State.zone_congr zcu, placesReturning_eq, placesReturning_eq, zcu]
  · rw [holds, zcu, ← returningBy_eq]
    exact sound.onePlace l

/-- A change of one lane that keeps its state and configuration. -/
theorem State.ZonesSound.atLane (sound : s.ZonesSound) (f : Lane → Lane) (g : Head → Head) (h : Lines → Lines)
    (holds : (f (s.lane l)).holdsPlace = (s.lane l).holdsPlace)
    (config : (s.lane l).holdsPlace = true → (f (s.lane l)).config = (s.lane l).config) :
    (s.atLane l f g h).ZonesSound :=
  sound.keeps (laneStep_atLane s l f g h) rfl (by rwa [State.lane_atLane_same]) (by rwa [State.lane_atLane_same])

theorem State.ZonesSound.modLane (sound : s.ZonesSound) (f : Lane → Lane)
    (holds : (f (s.lane l)).holdsPlace = (s.lane l).holdsPlace)
    (config : (f (s.lane l)).config = (s.lane l).config) : (s.modLane l f).ZonesSound := by
  rw [State.modLane_eq_atLane]
  exact sound.atLane f id id holds fun _ => config

theorem State.ZonesSound.modLine (sound : s.ZonesSound) (h : Lines → Lines) : (s.modLine l h).ZonesSound := by
  rw [State.modLine_eq_atLane]
  exact sound.atLane id id h rfl fun _ => rfl

theorem State.ZonesSound.hand (sound : s.ZonesSound) (e : LaneEvent) : (s.hand l e).ZonesSound :=
  sound.modLane _ rfl rfl

/-! ### A lane that gives its place back -/

/-- A lane whose place is asked back as it leaves it: what was held is now on its way (R158, R159). -/
theorem State.ZonesSound.givesBack {rs : List ZoneRequest} (sound : s.ZonesSound) (step : LaneStep l s t)
    (zones : t.zcu.zones = s.zcu.zones) (requests : t.zcu.requests = s.zcu.requests ++ rs)
    (left : (t.lane l).holdsPlace = false) (back : ∀ z, returningOf rs z = (s.lane l).placesOf z)
    (one : returningBy rs l = if (s.lane l).holdsPlace then 1 else 0) : t.ZonesSound := by
  refine sound.laneStep step (fun z => ?_) ?_
  · have zone : t.zone z = s.zone z := by rw [State.zone, State.zone, zones]
    have none_held : (t.lane l).placesOf z = 0 := by simp [Lane.placesOf, left]
    have joined : t.placesReturning z = s.placesReturning z + returningOf rs z := by
      rw [placesReturning_eq, placesReturning_eq, requests, returningOf, List.countP_append]
      rfl
    have returned := back z
    rw [zone]
    omega
  · have joined : returningBy t.zcu.requests l = returningBy s.zcu.requests l + returningBy rs l := by
      rw [requests, returningBy, List.countP_append]
      rfl
    have before := sound.onePlace l
    rw [returningBy_eq] at before
    rw [left, joined, one]
    simp only [Bool.false_eq_true, if_false]
    omega

/-- The request of a lane that gives its place back, when it holds one. -/
def Lane.backRequest (ln : Lane) (l : LaneNo) (ask : ZoneAsk) : List ZoneRequest :=
  if ln.holdsPlace then [⟨l, ln.config.zone, ask⟩] else []

theorem returningOf_backRequest (ln : Lane) (l : LaneNo) {ask : ZoneAsk} (gives : ask ≠ .exit) (z : ZoneNo) :
    returningOf (ln.backRequest l ask) z = ln.placesOf z := by
  have back : (ask != .exit) = true := bne_iff_ne.mpr gives
  unfold Lane.backRequest Lane.placesOf returningOf
  cases ln.holdsPlace with
  | false => rfl
  | true => simp [List.countP_cons, ZoneRequest.givesBack, back]

theorem returningBy_backRequest (ln : Lane) (l : LaneNo) {ask : ZoneAsk} (gives : ask ≠ .exit) :
    returningBy (ln.backRequest l ask) l = if ln.holdsPlace then 1 else 0 := by
  have back : (ask != .exit) = true := bne_iff_ne.mpr gives
  unfold Lane.backRequest returningBy
  cases ln.holdsPlace with
  | false => rfl
  | true => simp [ZoneRequest.givesBack, back]

/-- In the two states that hold a place, a release is asked exactly by a lane that holds one. -/
theorem Lane.releaseRequest_eq {ln : Lane} (state : ln.state = .validating ∨ ln.state = .awaitPass) (l : LaneNo) :
    ln.releaseRequest l = ln.backRequest l .release := by
  have within : (ln.state == .validating || ln.state == .awaitPass) = true := by simpa using state
  unfold Lane.releaseRequest Lane.backRequest Lane.holdsPlace
  rw [within]
  cases ln.config.direction <;> rfl

theorem Lane.holdsPlace_eq_false {ln : Lane} (notValidating : ln.state ≠ .validating)
    (notAwaiting : ln.state ≠ .awaitPass) :
    ln.holdsPlace = false := by
  simp [Lane.holdsPlace, notValidating, notAwaiting]

/-- Ending work asks for the release of the place the lane holds, if it holds one (R92). -/
theorem endWork_zcu (s : State) (l : LaneNo) :
    (s.endWork l).zcu = (s.withRequests ((s.lane l).backRequest l .release)).zcu := by
  have cleared (x : State) : (x.clearPresentation l).zcu = x.zcu := rfl
  have asked {x : State} (lanes : x.lanes = s.lanes) (zcu : x.zcu = s.zcu)
      (state : (s.lane l).state = .validating ∨ (s.lane l).state = .awaitPass) :
      (x.releasePlace l).zcu = (s.withRequests ((s.lane l).backRequest l .release)).zcu := by
    rw [State.releasePlace_of_lane (State.lane_congr lanes l), Lane.releaseRequest_eq state]
    simp only [State.withRequests, zcu]
  cases state : (s.lane l).state
  case validating =>
    rw [State.endWork_validating state, cleared]
    exact asked (by simp) (by simp) (.inl state)
  case awaitPass =>
    rw [State.endWork_awaitPass state, cleared]
    unfold State.abandonPassage
    dsimp only
    split
    · split
      · exact asked (by simp) (by simp) (.inr state)
      · exact asked rfl rfl (.inr state)
    · exact asked (by simp) (by simp) (.inr state)
    · exact asked rfl rfl (.inr state)
  all_goals
    rw [State.endWork_idle (by simp [state]) (by simp [state]), cleared, Lane.backRequest,
      Lane.holdsPlace_eq_false (by simp [state]) (by simp [state])]
    simp [State.withRequests]

/-- A lane that ends its work in flight and changes to a state that holds no place. -/
theorem State.ZonesSound.endWork_atLane (sound : s.ZonesSound) (f : Lane → Lane) (g : Head → Head) (h : Lines → Lines)
    (left : (f ((s.endWork l).lane l)).holdsPlace = false) : ((s.endWork l).atLane l f g h).ZonesSound := by
  have zcu : ((s.endWork l).atLane l f g h).zcu = (s.withRequests ((s.lane l).backRequest l .release)).zcu :=
    endWork_zcu s l
  refine sound.givesBack ((laneStep_endWork s l).trans (laneStep_atLane _ l f g h)) (by rw [zcu]; rfl)
    (by rw [zcu]; rfl)
    (by rwa [State.lane_atLane_same]) (fun z => returningOf_backRequest _ l (by simp) z)
    (returningBy_backRequest _ l (by simp))

theorem Lane.settled_holdsNoPlace (ln : Lane) : ln.settled ≠ .validating ∧ ln.settled ≠ .awaitPass := by
  unfold Lane.settled
  split <;> exact ⟨nofun, nofun⟩

theorem Lane.holdsPlace_settled (ln ln' : Lane) (state : ln'.state = ln.settled) : ln'.holdsPlace = false := by
  obtain ⟨notValidating, notAwaiting⟩ := ln.settled_holdsNoPlace
  exact Lane.holdsPlace_eq_false (by rwa [state]) (by rwa [state])

/-! ### Requests taken by the ZCU -/

theorem find_dropRequest {l : LaneNo} {rs : List ZoneRequest} {r : ZoneRequest}
    (found : rs.find? (·.lane == l) = some r)
    (p : ZoneRequest → Bool) : (dropRequest l rs).countP p + (if p r then 1 else 0) = rs.countP p := by
  induction rs with
  | nil => cases found
  | cons x rs ih =>
    rw [dropRequest]
    split
    next own =>
      rw [List.find?_cons_of_pos (by simp [own]), Option.some.injEq] at found
      rw [found, List.countP_cons]
    next other =>
      rw [List.find?_cons_of_neg (by simp [other])] at found
      have later := ih found
      rw [List.countP_cons, List.countP_cons]
      omega

theorem ZoneAsk.apply_reserved (a : ZoneAsk) (z : Zone) :
    (a.apply z).reserved = if a != .exit then z.reserved - 1 else z.reserved := by
  cases a
  · rfl
  · rfl
  · simp only [ZoneAsk.apply, Zone.exit]
    split <;> rfl

/-- A request served: a place on its way back is given back to its zone (R158 to R160). -/
theorem State.ZonesSound.serveZone (sound : s.ZonesSound) (l : LaneNo) : (s.serveZone l).ZonesSound := by
  cases found : s.zoneRequest l with
  | none => rwa [State.serveZone_of_none s l found]
  | some r =>
    have step := laneStep_serveZone s l
    rw [State.serveZone_of_request s l found] at step ⊢
    have returning (z : ZoneNo) : ((s.requestDropped l).modZone r.zone r.ask.apply).placesReturning z +
        (if r.givesBack && r.zone == z then 1 else 0) = s.placesReturning z := by
      rw [placesReturning_eq, placesReturning_eq]
      exact find_dropRequest found _
    refine sound.laneStep step (fun z => ?_) ?_
    · have place := returning z
      have reserved : (((s.requestDropped l).modZone r.zone r.ask.apply).zone z).reserved +
          (if r.givesBack && r.zone == z then 1 else 0) = (s.zone z).reserved := by
        have enough := sound.reserved z
        rw [State.zone_modZone]
        by_cases same : z = r.zone
        · subst same
          rw [if_pos rfl, ZoneAsk.apply_reserved]
          change (if r.givesBack then (s.zone r.zone).reserved - 1 else (s.zone r.zone).reserved) + _ = _
          cases gives : r.givesBack with
          | true =>
            simp only [gives, Bool.true_and, beq_self_eq_true, if_true] at place ⊢
            omega
          | false => simp
        · have other : (r.zone == z) = false := beq_eq_false_iff_ne.mpr (Ne.symm same)
          simp only [if_neg same, other, Bool.and_false, Bool.false_eq_true, if_false, Nat.add_zero]
          rfl
      have kept : ((s.requestDropped l).modZone r.zone r.ask.apply).lane l = s.lane l := rfl
      rw [kept]
      omega
    · have fewer : returningBy (dropRequest l s.zcu.requests) l + (if r.givesBack && r.lane == l then 1 else 0) =
          returningBy s.zcu.requests l := find_dropRequest found _
      have before := sound.onePlace l
      rw [returningBy_eq] at before
      change (if (s.lane l).holdsPlace then 1 else 0) + returningBy (dropRequest l s.zcu.requests) l ≤ 1
      omega

theorem State.ZonesSound.serveZoneAll (sound : s.ZonesSound) (l : LaneNo) : (s.serveZoneAll l).ZonesSound := by
  unfold State.serveZoneAll
  generalize s.zcu.requests.filter _ = rs
  induction rs generalizing s with
  | nil => exact sound
  | cons r rs ih => exact ih (sound.serveZone l)

theorem serveZone_requests (s : State) (l : LaneNo) : (s.serveZone l).zcu.requests = dropRequest l s.zcu.requests := by
  cases found : s.zoneRequest l with
  | none =>
    rw [State.serveZone_of_none s l found]
    have absent : ∀ r ∈ s.zcu.requests, ¬(r.lane == l) = true := List.find?_eq_none.mp found
    generalize s.zcu.requests = rs at absent
    induction rs with
    | nil => rfl
    | cons r rs ih =>
      rw [dropRequest, if_neg (by simpa using absent r (by simp)), ← ih fun x mem => absent x (by simp [mem])]
  | some r =>
    rw [State.serveZone_of_request s l found]
    rfl

/-- As many services as a lane has requests leave it none. -/
theorem serveZoneAll_requests (s : State) (l : LaneNo) :
    ((s.serveZoneAll l).zcu.requests.filter fun r => r.lane == l) = [] := by
  have dropped (rs : List ZoneRequest) :
      ((dropRequest l rs).filter fun r => r.lane == l) = (rs.filter fun r => r.lane == l).tail := by
    induction rs with
    | nil => rfl
    | cons r rs ih =>
      rw [dropRequest]
      split
      next own => simp [own]
      next other => simp [other, ih]
  unfold State.serveZoneAll
  generalize own : (s.zcu.requests.filter fun r => r.lane == l) = rs
  induction rs generalizing s with
  | nil => exact own
  | cons r rs ih => exact ih (s.serveZone l) (by rw [serveZone_requests, dropped, own]; rfl)

theorem returningBy_serveZoneAll (s : State) (l : LaneNo) : returningBy (s.serveZoneAll l).zcu.requests l = 0 := by
  rw [returningBy_of_filter (rs := []) (serveZoneAll_requests s l)]
  rfl

/-- A lane without a place that reserves one, its own requests served before, holds it (R157). -/
theorem State.ZonesSound.takesPlace (sound : s.ZonesSound) (served : returningBy s.zcu.requests l = 0)
    (step : LaneStep l (s.reserve l) t) (zcu : t.zcu = (s.reserve l).zcu) (before : (s.lane l).holdsPlace = false)
    (holds : (t.lane l).holdsPlace = true) (config : (t.lane l).config = (s.lane l).config) : t.ZonesSound := by
  have reserving : LaneStep l s (s.reserve l) := laneStep_modZone s l _ _
  refine sound.laneStep (reserving.trans step) (fun z => ?_) ?_
  · have zone : (t.zone z).reserved = (s.zone z).reserved + (t.lane l).placesOf z := by
      rw [State.zone_congr zcu, State.reserve, State.zone_modZone, Lane.placesOf, holds, config, Bool.true_and]
      by_cases same : z = (s.lane l).config.zone
      · subst same
        simp
      · have other : ((s.lane l).config.zone == z) = false := beq_eq_false_iff_ne.mpr (Ne.symm same)
        rw [if_neg same, other]
        rfl
    have none_held : (s.lane l).placesOf z = 0 := by simp [Lane.placesOf, before]
    have returning : t.placesReturning z = s.placesReturning z := by
      rw [placesReturning_eq, placesReturning_eq, zcu]
      rfl
    omega
  · rw [holds, zcu]
    change (if true = true then 1 else 0) + returningBy s.zcu.requests l ≤ 1
    rw [served]
    exact le_rfl

end

end Sys2Proof.Machine
end

section
/-! SUPPORT. The steps of one lane in the form the invariants use: changes that leave the lane's course as it is
(`Quiet`), the result of an unreachable claim, a claim issued, and a passage completed. -/

namespace Sys2Proof.Machine

/-! ### Changes that leave a lane's course -/

/-- Two records of a lane that differ at most in what it remembers: its presentation, echo record, last disposition and
counters. -/
structure Lane.Alike (ln ln' : Lane) : Prop where
  state : ln'.state = ln.state
  config : ln'.config = ln.config
  openIntent : ln'.openIntent = ln.openIntent
  seq : ln'.seq = ln.seq
  passage : ln'.passage = ln.passage
  events : ln'.events = ln.events
  counters : ln.counters.Bounded → ln'.counters.Bounded

/-- Lines of a lane that differ at most in their indication and the levels of their inputs. -/
structure Lines.Alike (x x' : Lines) : Prop where
  arm : x'.arm = x.arm
  latch : x'.latch = x.latch
  passTimer : x'.passTimer = x.passTimer
  cancelSet : x'.cancelSet = x.cancelSet

theorem Lane.Alike.refl (ln : Lane) : ln.Alike ln := ⟨rfl, rfl, rfl, rfl, rfl, rfl, id⟩

theorem Lines.Alike.refl (x : Lines) : x.Alike x := ⟨rfl, rfl, rfl, rfl⟩

/-- A step of one lane that leaves its course: its state, its events, its passage, its arm and its claim. -/
structure Quiet (l : LaneNo) (s t : State) : Prop where
  step : LaneStep l s t
  zcu : t.zcu = s.zcu
  lane : (s.lane l).Alike (t.lane l)
  lines : (s.line l).Alike (t.line l)
  inHand : (t.head l).inHand = (s.head l).inHand
  place : t.place l = s.place l

theorem Quiet.trans {l : LaneNo} {s t u : State} (first : Quiet l s t) (second : Quiet l t u) : Quiet l s u where
  step := first.step.trans second.step
  zcu := second.zcu.trans first.zcu
  lane :=
    { state := second.lane.state.trans first.lane.state
      config := second.lane.config.trans first.lane.config
      openIntent := second.lane.openIntent.trans first.lane.openIntent
      seq := second.lane.seq.trans first.lane.seq
      passage := second.lane.passage.trans first.lane.passage
      events := second.lane.events.trans first.lane.events
      counters := fun bounded => second.lane.counters (first.lane.counters bounded) }
  lines :=
    ⟨second.lines.arm.trans first.lines.arm, second.lines.latch.trans first.lines.latch,
      second.lines.passTimer.trans first.lines.passTimer, second.lines.cancelSet.trans first.lines.cancelSet⟩
  inHand := second.inHand.trans first.inHand
  place := second.place.trans first.place

theorem Quiet.of_kept {l : LaneNo} {s t : State} (step : LaneStep l s t) (kept : LanesKept s t) : Quiet l s t where
  step := step
  zcu := kept.zcu
  lane := kept.lane l ▸ Lane.Alike.refl _
  lines := kept.line l ▸ Lines.Alike.refl _
  inHand := by rw [kept.head]
  place := kept.place l

section
variable (s : State) (l : LaneNo)

theorem Quiet.refl : Quiet l s s := .of_kept (.refl l s) (.refl s)

theorem quiet_atLane {f : Lane → Lane} {g : Head → Head} {h : Lines → Lines} (lane : (s.lane l).Alike (f (s.lane l)))
    (lines : (s.line l).Alike (h (s.line l))) (inHand : (g (s.head l)).inHand = (s.head l).inHand) :
    Quiet l s (s.atLane l f g h) where
  step := laneStep_atLane s l f g h
  zcu := rfl
  lane := by rwa [State.lane_atLane_same]
  lines := by rwa [State.line_atLane_same]
  inHand := by rwa [State.head_atLane_same]
  place := rfl

theorem quiet_report (r : Report) : Quiet l s (s.report r) := .of_kept (laneStep_report s l r) (lanesKept_report s r)

theorem quiet_freeUsed : Quiet l s s.freeUsed :=
  .of_kept (laneStep_freeUsed s l) (.of_blocks rfl rfl rfl rfl rfl rfl rfl)

theorem quiet_second : Quiet l s s.second.2 := by
  unfold State.second
  split
  · exact .refl s l
  · exact quiet_freeUsed s l

theorem quiet_dispose (m : Message) (a : Nat) (k : Option Key) : Quiet l s (s.dispose l m a k) := by
  rw [State.dispose_eq_atLane]
  exact quiet_atLane s l ⟨rfl, rfl, rfl, rfl, rfl, rfl, id⟩ (.refl _) rfl

theorem quiet_count {f : LaneCounters → LaneCounters} (bounded : ∀ c : LaneCounters, c.Bounded → (f c).Bounded) :
    Quiet l s (s.count l f) := by
  rw [State.count_eq_atLane]
  exact quiet_atLane s l ⟨rfl, rfl, rfl, rfl, rfl, rfl, bounded _⟩ (.refl _) rfl

theorem LaneCounters.Bounded.refused {c : LaneCounters} (bounded : c.Bounded) :
    LaneCounters.Bounded { c with refused := bump c.refused } := by
  obtain ⟨admitted, refused, forced, manual, provisional, free⟩ := bounded
  exact ⟨admitted, bump_le refused, forced, manual, provisional, free⟩

theorem LaneCounters.Bounded.forced {c : LaneCounters} (bounded : c.Bounded) :
    LaneCounters.Bounded { c with forced := bump c.forced } := by
  obtain ⟨admitted, refused, forced, manual, provisional, free⟩ := bounded
  exact ⟨admitted, refused, bump_le forced, manual, provisional, free⟩

theorem LaneCounters.Bounded.free {c : LaneCounters} (bounded : c.Bounded) :
    LaneCounters.Bounded { c with free := bump c.free } := by
  obtain ⟨admitted, refused, forced, manual, provisional, free⟩ := bounded
  exact ⟨admitted, refused, forced, manual, provisional, bump_le free⟩

theorem LaneCounters.Bounded.passed {c : LaneCounters} (bounded : c.Bounded) (o : Origin) : (c.passed o).Bounded := by
  obtain ⟨admitted, refused, forced, manual, provisional, free⟩ := bounded
  cases o
  · exact ⟨bump_le admitted, refused, forced, manual, provisional, free⟩
  · exact ⟨bump_le admitted, refused, forced, manual, provisional, free⟩
  · exact ⟨admitted, refused, forced, manual, bump_le provisional, free⟩
  · exact ⟨admitted, refused, forced, bump_le manual, provisional, free⟩

/-- A presentation refused in IDLE leaves the lane in IDLE (R75, R76, R78). -/
theorem quiet_refused (m : Message) (a : Nat) (k : Option Key) (i : Indication) :
    Quiet l s (((s.dispose l m a k).indicate l i).countRefused l) := by
  rw [State.refused_eq_atLane]
  exact quiet_atLane s l ⟨rfl, rfl, rfl, rfl, rfl, rfl, LaneCounters.Bounded.refused⟩ ⟨rfl, rfl, rfl, rfl⟩ rfl

theorem quiet_forced : Quiet l s (s.forced l) :=
  (quiet_count s l fun _ bounded => bounded.forced).trans (quiet_report _ l _)

/-! ### The result of an unreachable claim, and a claim issued -/

/-- A claim found unreachable hands its lane one result, its tracker place emptied; the log is no lane's. -/
theorem unreachable_handed (e : TrackerEntry) :
    ∃ r, LanesKept ((s.setPlace l none).handResult l r) (s.unreachable l e) := by
  unfold State.unreachable
  dsimp only
  split
  · exact ⟨_, .refl _⟩
  · unfold State.provisionalEntry
    split
    · exact ⟨_, .refl _⟩
    · split
      · exact ⟨_, .refl _⟩
      · exact ⟨_, ⟨rfl, rfl, rfl, rfl, rfl, rfl, rfl⟩⟩
  · unfold State.provisionalExit
    split
    · exact ⟨_, ⟨rfl, rfl, rfl, rfl, rfl, rfl, rfl⟩⟩
    · exact ⟨_, ⟨rfl, rfl, rfl, rfl, rfl, rfl, rfl⟩⟩

/-- The lane as it enters VALIDATING with its claim (R79). -/
def Lane.claiming (k : Key) (t : Nat) (ln : Lane) : Lane :=
  { ln with state := .validating, current := some ⟨k, t⟩, seq := (ln.seq + 1) % 256 }

/-- A claim issued is tracked, or has its result at once (R125, R130). -/
theorem issueClaim_handed (k : Key) (t : Nat) :
    (∃ e, LanesKept ((s.modLane l (Lane.claiming k t)).setPlace l (some e)) (s.issueClaim l k t)) ∨
      ∃ r, LanesKept (((s.modLane l (Lane.claiming k t)).setPlace l none).handResult l r) (s.issueClaim l k t) := by
  rw [State.issueClaim_eq]
  unfold State.trackClaim
  split
  · exact .inl ⟨_, lanesKept_offerIntake _ _⟩
  · split
    · exact .inl ⟨_, lanesKept_offer _ _⟩
    · exact .inr (unreachable_handed _ l _)

theorem issueClaim_lane (k : Key) (t : Nat) :
    ((s.issueClaim l k t).lane l).state = .validating ∧ ((s.issueClaim l k t).lane l).config = (s.lane l).config ∧
      (s.issueClaim l k t).zcu = s.zcu := by
  obtain ⟨e, kept⟩ | ⟨r, kept⟩ := issueClaim_handed s l k t
  · rw [kept.lane, kept.zcu]
    have lane : ((s.modLane l (Lane.claiming k t)).setPlace l (some e)).lane l = Lane.claiming k t (s.lane l) :=
      s.lane_modLane_same l _
    rw [lane]
    exact ⟨rfl, rfl, rfl⟩
  · rw [kept.lane, kept.zcu]
    have claiming : ((s.modLane l (Lane.claiming k t)).setPlace l none).lane l = Lane.claiming k t (s.lane l) :=
      s.lane_modLane_same l _
    rw [State.handResult, State.hand, State.lane_modLane_same, claiming]
    exact ⟨rfl, rfl, rfl⟩

/-- A presentation leaves the lane's course, or goes on from IDLE to its reservation and claim. -/
theorem takePresentation_cases (p : Presentation) :
    Quiet l s (s.takePresentation l p) ∨
      (s.lane l).state = .idle ∧ ∃ x k t, Quiet l s x ∧ s.takePresentation l p = x.reserveAndClaim l k t := by
  cases state : (s.lane l).state
  case idle =>
    rw [State.takePresentation_idle state]
    have second := quiet_second s l
    unfold State.processPresentation
    dsimp only
    split
    · exact .inl (second.trans (quiet_refused _ l _ _ _ _))
    · split
      · exact .inl (second.trans (quiet_refused _ l _ _ _ _))
      · unfold State.echoCheck
        split
        · exact .inl second
        · have noted (k : Key) (t : Nat) :
              Quiet l s.second.2 (s.second.2.modLane l fun ln => { ln with echo := some ⟨k, t⟩ }) := by
            rw [State.modLane_eq_atLane]
            exact quiet_atLane _ l ⟨rfl, rfl, rfl, rfl, rfl, rfl, id⟩ (.refl _) rfl
          exact .inr ⟨rfl, _, _, _, second.trans (noted _ _), rfl⟩
  case closed =>
    rw [State.takePresentation_closed state]
    exact .inl (quiet_dispose s l _ _ _)
  case released =>
    rw [State.takePresentation_released state]
    exact .inl (quiet_dispose s l _ _ _)
  case validating => rw [State.takePresentation_discarded (.inl state)]; exact .inl (.refl s l)
  case awaitPass => rw [State.takePresentation_discarded (.inr (.inl state))]; exact .inl (.refl s l)
  case fault => rw [State.takePresentation_discarded (.inr (.inr state))]; exact .inl (.refl s l)

/-! ### A passage completed -/

/-- The lines of a lane at rest: the arm locked, latches and timer stopped, dark. -/
def Lines.rested (now : Nat) (x : Lines) : Lines :=
  { x with
    arm := .locked, latch := .disarmed, passTimer := none, cancelSet := false, indication := .dark, shownSince := now }

/-- The lane once its passage has happened (R85, steps 4 and 6). -/
def Lane.passed (p : Passage) (ln : Lane) : Lane :=
  { ln with counters := ln.counters.passed p.origin, current := none, passage := none, state := ln.settled }

theorem lanesKept_passageTold (p : Passage) (t : Nat) : LanesKept s (s.passageTold l p t) := by
  unfold State.passageTold
  refine LanesKept.trans (t := s.sendPassed l p t) ?_ ?_
  · unfold State.sendPassed
    split
    · exact lanesKept_sendNotice s _ _
    · exact .refl s
  · unfold State.completeRecord
    split
    · exact lanesKept_setLog _ _
    · exact .refl _

theorem lanesKept_reportPassage (p : Passage) (t : Nat) : LanesKept s (s.reportPassage l p t) := by
  unfold State.reportPassage
  dsimp only
  split
  · split
    · exact lanesKept_report s _
    · exact .refl s
  all_goals exact lanesKept_report s _

theorem reportPassage_count (p : Passage) (t : Nat) (f : LaneCounters → LaneCounters) :
    (s.count l f).reportPassage l p t = (s.reportPassage l p t).count l f := by
  have lane : (s.count l f).lane l = { s.lane l with counters := f (s.lane l).counters } := s.lane_modLane_same l _
  unfold State.reportPassage
  simp only [lane, Lane.currentKey]
  cases p.origin
  case provisional =>
    dsimp only
    cases (s.lane l).current <;> rfl
  all_goals rfl

/-- A passage completed, as a step away from the lanes, the request it makes of its zone, and one change at its lane
(R85). -/
theorem completePassage_form (p : Passage) :
    ∃ x now, LanesKept
      (s.withRequests [⟨l, (s.lane l).config.zone, if (s.lane l).config.direction = .entry then .convert else .exit⟩]) x ∧
      s.completePassage l p = x.atLane l (Lane.passed p) id (Lines.rested now) := by
  have second : LanesKept s s.second.2 := by
    unfold State.second
    split
    · exact .refl s
    · exact .of_blocks rfl rfl rfl rfl rfl rfl rfl
  have told := second.trans (lanesKept_passageTold s.second.2 l p s.second.1)
  let ask : ZoneAsk := if (s.lane l).config.direction = .entry then .convert else .exit
  let asked := (s.second.2.passageTold l p s.second.1).askZone l ask
  have request : LanesKept (s.withRequests [⟨l, (s.lane l).config.zone, ask⟩]) asked := by
    refine ⟨told.pending, told.lanes, told.lbp, ?_, told.lines, told.tracker, told.clock⟩
    simp only [asked, State.askZone, told.zcu, told.lane, State.withRequests]
  refine ⟨asked.reportPassage l p s.second.1, (asked.reportPassage l p s.second.1).timebase,
    request.trans (lanesKept_reportPassage asked l p _), ?_⟩
  have steps : s.completePassage l p =
      ((((asked.count l fun c => c.passed p.origin).reportPassage l p s.second.1).clearPresentation l).lockArm
        l).settle l .dark := rfl
  rw [steps, reportPassage_count, State.lockArm_settle_eq, State.clearPresentation_eq_atLane, State.count_eq_atLane,
    State.atLane_atLane, State.atLane_atLane]
  exact State.atLane_congr rfl rfl (by simp [Lines.rested])

end

/-! ### The zones through the steps of a lane -/

section
variable {s t : State} {l : LaneNo}

theorem State.ZonesSound.quiet (sound : s.ZonesSound) (quiet : Quiet l s t) : t.ZonesSound :=
  sound.keeps quiet.step quiet.zcu
    (by rw [Lane.holdsPlace, Lane.holdsPlace, quiet.lane.state, quiet.lane.config]) fun _ => quiet.lane.config

theorem State.ZonesSound.setPlace (sound : s.ZonesSound) (e : Option TrackerEntry) : (s.setPlace l e).ZonesSound :=
  sound.keeps (laneStep_setPlace s l e) rfl rfl fun _ => rfl

theorem State.ZonesSound.unreachable (sound : s.ZonesSound) (e : TrackerEntry) : (s.unreachable l e).ZonesSound := by
  obtain ⟨r, kept⟩ := unreachable_handed s l e
  exact ((sound.setPlace none).hand _).of_kept kept

/-- A claim issued by a lane that has its place, or needs none: on an EXIT lane. -/
theorem State.ZonesSound.issueClaim_exit (sound : s.ZonesSound) (direction : (s.lane l).config.direction = .exit)
    (k : Key) (time : Nat) : (s.issueClaim l k time).ZonesSound := by
  obtain ⟨-, config, zcu⟩ := issueClaim_lane s l k time
  refine sound.keeps (laneStep_issueClaim s l k time) zcu ?_ fun _ => config
  simp only [Lane.holdsPlace, config, direction]
  rfl

theorem State.ZonesSound.issueClaim_entry (sound : s.ZonesSound) (idle : (s.lane l).state = .idle)
    (direction : (s.lane l).config.direction = .entry) (k : Key) (time : Nat) :
    (((s.serveZoneAll l).reserve l).issueClaim l k time).ZonesSound := by
  have lane : (s.serveZoneAll l).lane l = s.lane l := State.lane_serveZoneAll s l l
  obtain ⟨state, config, zcu⟩ := issueClaim_lane ((s.serveZoneAll l).reserve l) l k time
  have config_kept : ((((s.serveZoneAll l).reserve l).issueClaim l k time).lane l).config = (s.lane l).config :=
    config.trans (congrArg Lane.config lane)
  refine (sound.serveZoneAll l).takesPlace (returningBy_serveZoneAll s l) (laneStep_issueClaim _ l k time) zcu ?_ ?_ ?_
  · rw [lane]
    exact Lane.holdsPlace_eq_false (by simp [idle]) (by simp [idle])
  · simp [Lane.holdsPlace, state, config_kept, direction]
  · rw [config_kept, lane]

theorem State.ZonesSound.takePresentation (sound : s.ZonesSound) (p : Presentation) :
    (s.takePresentation l p).ZonesSound := by
  obtain quiet | ⟨idle, x, k, time, quiet, claim⟩ := takePresentation_cases s l p
  · exact sound.quiet quiet
  · rw [claim]
    have noted := sound.quiet quiet
    have state : (x.lane l).state = .idle := quiet.lane.state.trans idle
    cases direction : (x.lane l).config.direction with
    | exit =>
      rw [State.reserveAndClaim_exit direction]
      exact noted.issueClaim_exit direction k time
    | entry =>
      rw [State.reserveAndClaim_entry direction]
      split
      · exact noted.issueClaim_entry state direction k time
      · exact (noted.serveZoneAll l).quiet (quiet_refused _ l _ _ _ _)

/-- A passage begins in a lane that holds its place already, or needs none. -/
theorem State.ZonesSound.beginPassage (sound : s.ZonesSound) (p : Passage) (i : Indication)
    (ready : (s.lane l).state = .validating ∨ (s.lane l).config.direction = .exit) :
      (s.beginPassage l p i).ZonesSound := by
  rw [passageBegins s l p i]
  refine sound.atLane _ _ _ ?_ fun _ => rfl
  obtain validating | exit := ready
  · simp [Lane.holdsPlace, validating]
  · simp [Lane.holdsPlace, exit]

theorem State.ZonesSound.grantResult (sound : s.ZonesSound) (state : (s.lane l).state = .validating) (m : Message)
    (a : Nat) (p : Passage) (i : Indication) : (s.grantResult l m a p i).ZonesSound := by
  have quiet := quiet_dispose s l m a (s.lane l).currentKey
  exact (sound.quiet quiet).beginPassage p i (.inl (quiet.lane.state.trans state))

theorem State.ZonesSound.refuseResult (sound : s.ZonesSound) (state : (s.lane l).state = .validating)
    (direction : (s.lane l).config.direction = .entry) (m : Message) (a : Nat) (i : Indication) :
    (s.refuseResult l m a i).ZonesSound := by
  have step := laneStep_refuseResult s l m a i
  rw [State.refuseResult_eq s l m a i direction] at step ⊢
  have request : [⟨l, (s.lane l).config.zone, .release⟩] = (s.lane l).backRequest l .release := by
    simp [Lane.backRequest, Lane.holdsPlace, direction, state]
  rw [request] at step ⊢
  refine sound.givesBack step rfl rfl ?_ (fun z => returningOf_backRequest _ l (by simp) z)
    (returningBy_backRequest _ l (by simp))
  rw [State.lane_withRequests, State.lane_atLane_same]
  exact Lane.holdsPlace_settled (s.lane l) _ rfl

theorem State.ZonesSound.takeResult (sound : s.ZonesSound) (r : Result) : (s.takeResult l r).ZonesSound := by
  by_cases state : (s.lane l).state = .validating
  · cases direction : (s.lane l).config.direction with
    | entry =>
      rw [State.takeResult_entry state direction]
      obtain ⟨m, a, p, i, granted⟩ | ⟨m, a, i, refused | drawn⟩ := s.entryResult_cases l r
      · rw [granted]
        exact sound.grantResult state m a p i
      · rw [refused]
        exact sound.refuseResult state direction m a i
      · rw [drawn]
        exact State.ZonesSound.refuseResult (sound.quiet (quiet_freeUsed s l)) state direction m a i
    | exit =>
      rw [State.takeResult_exit state direction]
      obtain ⟨m, a, p, i, granted | drawn⟩ := s.exitResult_cases l r
      · rw [granted]
        exact sound.grantResult state m a p i
      · rw [drawn]
        exact State.ZonesSound.grantResult (sound.quiet ((quiet_freeUsed s l).trans (quiet_freeUsed _ l))) state m a p i
  · rw [State.takeResult_ignored state]
    exact sound

theorem State.ZonesSound.completePassage (sound : s.ZonesSound) (state : (s.lane l).state = .awaitPass) (p : Passage) :
    (s.completePassage l p).ZonesSound := by
  have step := laneStep_completePassage s l p
  obtain ⟨x, now, kept, passed⟩ := completePassage_form s l p
  rw [passed] at step ⊢
  have lane : x.lane l = s.lane l := kept.lane l
  have left : ((x.atLane l (Lane.passed p) id (Lines.rested now)).lane l).holdsPlace = false := by
    rw [State.lane_atLane_same]
    exact Lane.holdsPlace_settled (x.lane l) _ rfl
  have zones : x.zcu.zones = s.zcu.zones := by rw [kept.zcu]; rfl
  have requests := congrArg Zcu.requests kept.zcu
  cases direction : (s.lane l).config.direction with
  | entry =>
    have request : [⟨l, (s.lane l).config.zone, .convert⟩] = (s.lane l).backRequest l .convert := by
      simp [Lane.backRequest, Lane.holdsPlace, direction, state]
    rw [direction, if_pos rfl, request] at requests
    exact sound.givesBack step zones requests left (fun z => returningOf_backRequest _ l (by simp) z)
      (returningBy_backRequest _ l (by simp))
  | exit =>
    rw [direction] at requests
    have holds : (s.lane l).holdsPlace = false := by simp [Lane.holdsPlace, direction]
    refine sound.givesBack step zones requests left (fun z => ?_) ?_
    · simp [returningOf, ZoneRequest.givesBack, Lane.placesOf, holds]
    · simp [returningBy, ZoneRequest.givesBack, holds]

theorem State.ZonesSound.takeRotation (sound : s.ZonesSound) (latched : Bool) :
    (s.takeRotation l latched).ZonesSound := by
  by_cases released : (s.lane l).state = .released
  · rw [State.takeRotation_released latched released]
    exact sound.quiet (quiet_count s l fun _ bounded => bounded.free)
  by_cases forced : (s.lane l).state ≠ .awaitPass ∨ latched = false
  · rw [State.takeRotation_forced released forced]
    exact sound.quiet (quiet_forced s l)
  · obtain ⟨awaiting, latch⟩ := not_or.mp forced
    have state := not_not.mp awaiting
    rw [Bool.not_eq_false] at latch
    subst latch
    cases passage : (s.lane l).passage with
    | some p =>
      rw [State.takeRotation_passage state passage]
      exact sound.completePassage state p
    | none =>
      have unpassaged : s.takeRotation l true = s.forced l := by simp [State.takeRotation, state, passage]
      rw [unpassaged]
      exact sound.quiet (quiet_forced s l)

end

end Sys2Proof.Machine
end

section
/-! SUPPORT. The reservations of the zones through every step (`State.ZonesSound`; section 9.2). -/

namespace Sys2Proof.Machine

/-! ### Every lane at once, and the lane bus -/

theorem perLane_get {α : Type} (f : LaneNo → α) (l : LaneNo) : (perLane f)[l] = f l := by
  have nth (n : Nat) (lt : n < 16) : laneNos[n]? = some ⟨n, lt⟩ := by
    rw [laneNos_eq, List.getElem?_eq_getElem (by simpa using lt)]
    simp
  have mapped : (laneNos.map f)[l.val]? = some (f l) := by rw [List.getElem?_map, nth l.val l.isLt]; rfl
  exact (List.getElem?_eq_some_iff.mp mapped).2

theorem State.lane_handAll (s : State) (e : LaneEvent) (l : LaneNo) :
    (s.handAll e).lane l = { s.lane l with events := (s.lane l).events ++ [e] } :=
  perLane_get (fun m : LaneNo => ({ s.lane m with events := (s.lane m).events ++ [e] } : Lane)) l

theorem State.lane_hand (s : State) (l m : LaneNo) (e : LaneEvent) :
    (s.hand l e).lane m = { s.lane m with events := if m = l then (s.lane m).events ++ [e] else (s.lane m).events } := by
  rw [State.hand, State.lane_modLane]
  split
  next same => rw [same]
  next => rfl

/-- A lane's record but for the events that wait. -/
def SameButEvents (s t : State) : Prop := ∀ l, ∃ es, t.lane l = { s.lane l with events := es }

theorem SameButEvents.of_lanes {s t : State} (lanes : t.lanes = s.lanes) : SameButEvents s t := fun l =>
  ⟨(s.lane l).events, by rw [State.lane_congr lanes]⟩

theorem SameButEvents.hand {s t : State} (lanes : t.lanes = s.lanes) (l : LaneNo) (e : LaneEvent) :
    SameButEvents s (t.hand l e) := fun m => ⟨_, by rw [State.lane_hand, State.lane_congr lanes]⟩

theorem SameButEvents.missed {s t : State} (lanes : t.lanes = s.lanes) (l : LaneNo) :
    SameButEvents s (t.missed l) := by
  unfold State.missed
  split
  · exact .of_lanes lanes
  · split
    · exact .of_lanes lanes
    · exact .hand (by exact lanes) l _

/-- The lane bus touches nothing of a lane's record but the events that wait. -/
theorem BusEffect.sameButEvents {s t : State} (effect : BusEffect s t) : SameButEvents s t := by
  cases effect with
  | pollBegun | fetchBegun | deliveryBegun => exact .of_lanes rfl
  | polled l count room underWay =>
    unfold State.polled
    (repeat' split)
    · exact .of_lanes rfl
    · exact .of_lanes rfl
    · exact .hand (by rfl) l _
  | missed l underWay => exact .missed (by rfl) l
  | fetched l answer underWay =>
    unfold State.fetched
    (repeat' split)
    · exact .of_lanes rfl
    · exact .hand (by rfl) l _
    · exact .of_lanes rfl
    · exact .of_lanes rfl
  | acknowledged l d gone underWay => split <;> exact .of_lanes rfl
  | undelivered l d gone underWay =>
    have missed : SameButEvents s (s.busFree.missed l) := .missed (by rfl) l
    unfold State.undelivered
    dsimp only
    split
    · exact missed
    · exact missed

theorem SameButEvents.course {s t : State} (same : SameButEvents s t) (l : LaneNo) :
    (t.lane l).state = (s.lane l).state ∧ (t.lane l).config = (s.lane l).config := by
  obtain ⟨es, lane⟩ := same l
  rw [lane]
  exact ⟨rfl, rfl⟩

/-! ### The rows of one lane -/

theorem Lane.holdsPlace_of_state_eq {ln : Lane} {st : LaneState} (state : ln.state = st)
    (notValidating : st ≠ .validating)
    (notAwaiting : st ≠ .awaitPass) : ln.holdsPlace = false :=
  Lane.holdsPlace_eq_false (by rwa [state]) (by rwa [state])

section
variable {s t : State} {l : LaneNo}

theorem State.ZonesSound.eventGone (sound : s.ZonesSound) (l : LaneNo) (before after : List LaneEvent) :
    (s.eventGone l before after).ZonesSound := sound.modLane _ rfl rfl

theorem State.ZonesSound.takeCancel (sound : s.ZonesSound) :
    ((s.modLine l fun x => { x with cancelSet := false }).takeCancel l).ZonesSound := by
  by_cases validating : (s.lane l).state = .validating
  · rw [State.takeCancel_validating validating]
    exact sound.endWork_atLane _ _ _ (Lane.holdsPlace_settled (s.lane l) _ rfl)
  by_cases awaiting : (s.lane l).state = .awaitPass
  · rw [State.takeCancel_awaitPass awaiting]
    exact sound.endWork_atLane _ _ _ (Lane.holdsPlace_settled (s.lane l) _ rfl)
  · rw [State.takeCancel_ignored (by exact validating) (by exact awaiting)]
    exact sound.modLine _

/-- A lane that changes between two states that hold no place. -/
theorem State.ZonesSound.atLane_unplaced (sound : s.ZonesSound) (f : Lane → Lane) (g : Head → Head) (h : Lines → Lines)
    (before : (s.lane l).holdsPlace = false) (after : (f (s.lane l)).holdsPlace = false) :
    (s.atLane l f g h).ZonesSound :=
  sound.atLane f g h (after.trans before.symm) fun held => absurd (before.symm.trans held) Bool.false_ne_true

/-- Every row of one lane keeps the balance of the zones. -/
theorem Effect.zonesSound_lane {i : Instr} (effect : Effect s i t) (row : rowLane i = some l) (sound : s.ZonesSound) :
    t.ZonesSound := by
  cases effect
  case notDue => exact sound
  case management pins access c rest head named effect =>
    rw [← named, rowLane_row] at row
    exact absurd row nofun
  case bus noLane _ => exact absurd (noLane.symm.trans row) nofun
  case sweepComplete | badCell | goodCell | ringDown | outputCellEnd | claim | passed | abandon | lateUse | holdDeadline
    | verdict | drainLateUse | inputActive | emergencyEdge | inputInactive | clockSecond => cases row
  case zoneServed m named => exact sound.serveZone m
  case claimTimeout m e d place => exact State.ZonesSound.unreachable (sound.of_kept (lanesKept_reach s d)) e
  case presentation m p rest events =>
    exact State.ZonesSound.takePresentation (sound.atLane _ _ _ rfl fun _ => rfl) p
  case claimResult m r before after next => exact (sound.eventGone m before after).takeResult r
  case rotation m latched before after next => exact (sound.eventGone m before after).takeRotation latched
  case passExpiry m before after next =>
    rw [State.takeExpiry_eq]
    split
    · exact (sound.eventGone m before after).endWork_atLane _ _ _
        (Lane.holdsPlace_settled ((s.eventGone m before after).lane m) _ rfl)
    · exact sound.eventGone m before after
  case cancel m before after next => exact (sound.eventGone m before after).takeCancel
  case linkLoss m before after next =>
    rw [State.takeLinkLoss_eq]
    split
    · exact sound.eventGone m before after
    · exact ((sound.eventGone m before after).endWork_atLane _ _ _
        (Lane.holdsPlace_of_state_eq (st := .fault) rfl nofun nofun)).of_kept
        (lanesKept_report _ _)
  case linkRegained m before after next =>
    rw [State.takeLinkRegained_eq]
    split
    next fault =>
      have left := (sound.eventGone m before after).atLane_unplaced
        (fun ln => { ln with state := ((s.eventGone m before after).lane m).settled }) id
        (fun x => { x with cancelSet := false, indication := .dark, shownSince := (s.eventGone m before after).timebase })
        (Lane.holdsPlace_of_state_eq fault nofun nofun)
        (Lane.holdsPlace_settled ((s.eventGone m before after).lane m) _ rfl)
      exact left.of_kept (lanesKept_report _ _)
    next => exact sound.eventGone m before after
  case emergencyEvent m before after next =>
    rw [State.takeEmergency_eq]
    exact (sound.eventGone m before after).endWork_atLane _ _ _ (Lane.holdsPlace_of_state_eq rfl nofun nofun)
  case latchClearing m before after next =>
    rw [State.takeClearing_eq]
    split
    next released =>
      exact (sound.eventGone m before after).atLane_unplaced _ _ _
        (Lane.holdsPlace_of_state_eq released nofun nofun)
        (Lane.holdsPlace_settled ((s.eventGone m before after).lane m) _ rfl)
    next => exact sound.eventGone m before after
  case rotationEdge m inactive => exact (sound.modLine _).hand _
  case sensorLevelInactive m => exact sound.modLine _
  case passTimerExpired m d timer => exact ((sound.of_kept (lanesKept_reach s d)).modLine _).hand _
  case cancelTaken m takes empty => exact ((sound.modLine _).modLine _).hand _
  case buttonPressed m => exact sound.modLine _
  case buttonReleased m => exact sound.modLine _
  case indicationTimeout m timed => exact (sound.of_kept (lanesKept_reach s _)).modLine _

/-! ### Every step -/

theorem State.lane_resetBlocks (s : State) (pins : Pins) (l : LaneNo) :
    (s.resetBlocks pins).lane l = Lane.afterReset (emergencyPin pins) := Vector.getElem_replicate ..

theorem State.zone_resetBlocks (s : State) (pins : Pins) (z : ZoneNo) : (s.resetBlocks pins).zone z = .zero :=
  Vector.getElem_replicate ..

/-- A reset part holds no place. -/
theorem zonesSound_resetBlocks (s : State) (pins : Pins) : (s.resetBlocks pins).ZonesSound := by
  have closed (l : LaneNo) : ((s.resetBlocks pins).lane l).holdsPlace = false := by
    rw [State.lane_resetBlocks]
    rfl
  refine ⟨fun z => ?_, fun l => ?_⟩
  · have none_held : (s.resetBlocks pins).placesHeld z = 0 := by
      rw [placesHeld_eq_countP, List.countP_eq_zero]
      intro l _
      rw [closed l, Bool.false_and]
      exact Bool.false_ne_true
    rw [none_held, State.zone_resetBlocks]
    rfl
  · rw [closed l]
    exact Nat.zero_le 1

theorem State.ZonesSound.withoutDelivery (sound : s.ZonesSound) (l : LaneNo) : (s.withoutDelivery l).ZonesSound :=
  sound.of_same (fun _ => ⟨rfl, rfl⟩) (fun _ => rfl) rfl

theorem Touched.zonesSound (touched : Touched s t) (sound : s.ZonesSound) : t.ZonesSound := by
  have kept_zones {x : State} (lanes : x.lanes = s.lanes) (zcu : x.zcu = s.zcu) : x.ZonesSound :=
    sound.of_same (fun l => by rw [State.lane_congr lanes]; exact ⟨rfl, rfl⟩) (fun z => by rw [State.zone_congr zcu])
      (by rw [zcu])
  cases touched with
  | reset pins => exact zonesSound_resetBlocks s pins
  | quotaSet z q =>
    refine sound.of_same (fun _ => ⟨rfl, rfl⟩) (fun w => ?_) rfl
    rw [State.zone_modZone]
    split
    next same => rw [same]
    next => rfl
  | underflowRead z =>
    refine sound.of_same (fun _ => ⟨rfl, rfl⟩) (fun w => ?_) rfl
    rw [State.zone_modZone]
    split
    next same => rw [same]
    next => rfl
  | clockSet second => exact kept_zones rfl rfl
  | secondPassed second clock => exact kept_zones rfl rfl
  | laneOpened l fitted clock =>
    split
    next closed =>
      exact sound.atLane_unplaced _ _ _ (Lane.holdsPlace_of_state_eq closed nofun nofun)
        (Lane.holdsPlace_of_state_eq rfl nofun nofun)
    next => exact sound.modLane _ rfl rfl
  | laneClosed l =>
    split
    next idle =>
      exact sound.atLane_unplaced _ _ _ (Lane.holdsPlace_of_state_eq idle nofun nofun)
        (Lane.holdsPlace_of_state_eq rfl nofun nofun)
    next => exact sound.modLane _ rfl rfl
  | laneReset l =>
    rw [State.resetLane_eq]
    refine (sound.endWork_atLane _ _ _ ?_).withoutDelivery l
    by_cases released : (s.lane l).state = .released <;> simp [Lane.holdsPlace, released]
  | exitReleased l idle direction => exact sound.beginPassage _ _ (.inr direction)
  | entryReleased l idle direction =>
    have lane : (s.serveZoneAll l).lane l = s.lane l := State.lane_serveZoneAll s l l
    refine (sound.serveZoneAll l).takesPlace (returningBy_serveZoneAll s l) (laneStep_beginPassage _ l _ _) (by simp)
      (by rw [lane]; exact Lane.holdsPlace_of_state_eq idle nofun nofun) ?_ ?_
    · rw [passageBegins, State.lane_atLane_same]
      simp [Lane.holdsPlace, State.reserve, lane, direction]
    · rw [passageBegins, State.lane_atLane_same]
      rfl
  | zoneFull l => exact sound.serveZoneAll l
  | countersCleared l => exact sound.modLane _ rfl rfl
  | configured l c closed windows =>
    have before : (s.lane l).holdsPlace = false := Lane.holdsPlace_of_state_eq closed nofun nofun
    have after (es : List LaneEvent) : Lane.holdsPlace { s.lane l with config := c, events := es } = false :=
      Lane.holdsPlace_of_state_eq closed nofun nofun
    by_cases loses : (s.lane l).config.fitted = true ∧ c.fitted = false
    · rw [State.configure_unfitting loses.1 loses.2]
      exact (sound.atLane_unplaced _ _ _ before (after _)).withoutDelivery l
    · rw [State.configure_keeping (by simpa [imp_iff_not_or] using loses), State.modLane_eq_atLane]
      exact sound.atLane_unplaced _ _ _ before (after _)
  | allHanded e told =>
    exact sound.of_same (fun l => by rw [State.lane_handAll]; exact ⟨rfl, rfl⟩) (fun _ => rfl) rfl
  | bus effect =>
    exact sound.of_same effect.sameButEvents.course (fun z => by rw [State.zone_congr effect.frame.2.1])
      (by rw [effect.frame.2.1])
  | unreachable l e place => exact sound.unreachable e
  | ringDown => exact unreachableAll_keeps sound fun _ _ e sound _ => sound.unreachable e
  | answered l e v a place => exact (sound.setPlace none).hand _
  | lane row effect => exact effect.zonesSound_lane row sound

end

/-- What steps away from the lanes keep, and what touches them keeps, every step keeps. -/
theorem step_keeps {P : State → Prop} (kept : ∀ s t, LanesKept s t → P s → P t)
    (touched : ∀ s t, Touched s t → P s → P t)
    (timebase : ∀ s : State, P s → P { s with timebase := s.timebase + 1 })
    (queue : ∀ (s : State) rest, P s → P { s with pending := rest })
    (rstnLow : ∀ s : State, P s → P s.heldInReset) {s t : State} (holds : P s) (stepped : step s = .next t) : P t := by
  have between {s t : State} (step : LanesTouched s t) (holds : P s) : P t := by
    obtain ⟨s1, t1, first, effect, last⟩ := step
    exact kept t1 t last (touched s1 t1 effect (kept s s1 first holds))
  unfold step at stepped
  split at stepped
  · cases stepped
    exact timebase s holds
  next rest _ =>
    have holds := queue s rest holds
    obtain ⟨pins, -, rfl⟩ | ⟨-, rfl⟩ | effect := exec_cases stepped
    · exact between (poweredOn_touched _ pins) holds
    · exact rstnLow _ holds
    · obtain away | step := effect.touched
      · exact kept _ _ away holds
      · exact between step holds

/-- Settles O12: every lane step moves a place between held, returning and reserved, and no other step counts. -/
theorem stepKeepsReservations : Obligations.StepKeepsReservations := by
  intro s t sound stepped
  refine step_keeps (fun _ _ kept sound => sound.of_kept kept) (fun _ _ touched sound => touched.zonesSound sound)
    (fun s sound => ?_) (fun s rest sound => ?_) (fun s sound => ?_) sound stepped
  all_goals exact sound.of_same (fun _ => ⟨rfl, rfl⟩) (fun _ => rfl) rfl

end Sys2Proof.Machine
end

section
/-! SUPPORT. The lanes through every step (`State.LanesSound`): what a lane's state says of its lines, its tracker place
and the events that wait for it. -/

namespace Sys2Proof.Machine

/-! ### One lane's part of the invariant -/

/-- What the invariant says of one lane. -/
def State.laneSound (s : State) (l : LaneNo) : Prop :=
  (s.lane l).Sound (s.line l) (s.place l) s.mgu.clock ∧
    (s.lane l).EventsSound (s.head l) (s.place l) (s.fetching l)

theorem fetching_congr {s t : State} (bus : t.lbp.underWay = s.lbp.underWay) (l : LaneNo) :
    t.fetching l = s.fetching l := by rw [State.fetching, State.fetching, bus]

theorem State.LanesSound.of_kept {s t : State} (sound : s.LanesSound) (kept : LanesKept s t) : t.LanesSound := fun l => by
  rw [kept.lane, kept.line, kept.place, kept.head, kept.clock, fetching_congr (congrArg Lbp.underWay kept.lbp)]
  exact sound l

/-- A step of one lane keeps the invariant when it keeps that lane's part of it. -/
theorem State.LanesSound.laneStep {s t : State} {l : LaneNo} (sound : s.LanesSound) (step : LaneStep l s t)
    (own : t.laneSound l) : t.LanesSound := fun m => by
  by_cases same : m = l
  · rw [same]
    exact own
  · rw [step.others.lane m same, step.others.line m same, step.others.place m same, step.others.head m same,
      step.core.mgu, fetching_congr step.others.bus]
    exact sound m

/-! ### Lines at rest -/

/-- The arm locked, the latches and the timer at rest. -/
structure Lines.AtRest (x : Lines) : Prop where
  arm : x.arm = .locked
  latch : x.latch = .disarmed
  timer : x.passTimer = none
  cancel : x.cancelSet = false

theorem Lines.rested_atRest (now : Nat) (x : Lines) : (x.rested now).AtRest := ⟨rfl, rfl, rfl, rfl⟩

theorem Arm.locked_of_not_free {a : Arm} (notFree : a ≠ .free) : a = .locked := by
  cases a
  · rfl
  · exact absurd rfl notFree

section
variable {ln ln' : Lane} {x x' : Lines} {place place' : Option TrackerEntry} {clock : Option Nat}

/-- Outside AWAIT_PASS and RELEASED the arm, the latch and the timer are at rest. -/
theorem Lane.Sound.lines_atRest (sound : ln.Sound x place clock) (notAwaiting : ln.state ≠ .awaitPass)
    (notReleased : ln.state ≠ .released) : x.arm = .locked ∧ x.latch = .disarmed ∧ x.passTimer = none :=
  ⟨Arm.locked_of_not_free fun free => (sound.arm free).elim notAwaiting notReleased,
    not_not.mp fun armed => notAwaiting (sound.latch armed),
    Option.not_isSome_iff_eq_none.mp fun running => notAwaiting (sound.timer running)⟩

/-- A tracker entry belongs to VALIDATING. -/
theorem Lane.Sound.place_eq_none (sound : ln.Sound x place clock) (state : ln.state ≠ .validating) : place = none :=
  Option.not_isSome_iff_eq_none.mp fun tracked => state (sound.tracked tracked)

/-- A lane at rest: in CLOSED, IDLE or FAULT, its lines at rest and its work ended. -/
theorem Lane.Sound.resting (sound : ln.Sound x place clock)
    (state : ln'.state = .closed ∨ ln'.state = .idle ∨ ln'.state = .fault)
    (closed : ln'.state = .closed → ln'.openIntent = false) (idle : ln'.state = .idle → clock.isSome)
    (intent : ln'.openIntent = true → ln.openIntent = true) (config : ln'.config = ln.config) (seq : ln'.seq = ln.seq)
    (counters : ln'.counters.Bounded) (passage : ln'.passage = none) (rest : x'.AtRest) : ln'.Sound x' none clock where
  arm free := by rw [rest.arm] at free; cases free
  timer running := by rw [rest.timer] at running; cases running
  latch armed := absurd rest.latch armed
  cancel set := by rw [rest.cancel] at set; cases set
  passage some := by rw [passage] at some; cases some
  tracked some := by cases some
  closed := closed
  clocked open_ := by
    obtain intended | isIdle | validating | awaiting := open_
    · exact sound.clocked (.inl (intent intended))
    · exact idle isIdle
    · rw [validating] at state
      simp at state
    · rw [awaiting] at state
      simp at state
  fitted intended := config ▸ sound.fitted (intent intended)
  seq := seq ▸ sound.seq
  windows := config ▸ sound.windows
  counters := counters

/-- A lane that settles, its work ended and its lines at rest (R70). -/
theorem Lane.Sound.settles (sound : ln.Sound x place clock) (state : ln'.state = ln.settled)
    (intent : ln'.openIntent = ln.openIntent) (config : ln'.config = ln.config) (seq : ln'.seq = ln.seq)
    (counters : ln'.counters.Bounded) (passage : ln'.passage = none) (rest : x'.AtRest) : ln'.Sound x' none clock := by
  cases open_ : ln.openIntent with
  | true =>
    have idle : ln'.state = .idle := by rw [state, Lane.settled, open_]; rfl
    exact sound.resting (.inr (.inl idle)) (fun closed => by rw [idle] at closed; cases closed)
      (fun _ => sound.clocked (.inl open_)) (fun _ => open_) config seq counters passage rest
  | false =>
    have closed : ln'.state = .closed := by rw [state, Lane.settled, open_]; rfl
    exact sound.resting (.inl closed) (fun _ => intent.trans open_) (fun idle => by rw [closed] at idle; cases idle)
      (fun intended => by rw [intent] at intended; exact intended) config seq counters passage rest

/-! ### The events that wait -/

/-- Events of a lane that are only taken, in a state that is no new VALIDATING, keep to their lane. -/
theorem Lane.EventsSound.taken {head head' : Head} {fetching : Bool} (sound : ln.EventsSound head place fetching)
    (events : ln'.events.Sublist ln.events) (validating : ln'.state = .validating → ln.state = .validating)
    (inHand : head'.inHand = false → head.inHand = false ∨ ∀ e ∈ ln'.events, e.isPresentation = false)
    (tracked : place'.isSome → place.isSome) : ln'.EventsSound head' place' fetching where
  answer some e mem := sound.answer (tracked some) e (events.subset mem)
  order := sound.order.sublist events
  inHand empty e mem := (inHand empty).elim (fun was => sound.inHand was e (events.subset mem)) fun none => none e mem
  validating state e mem := sound.validating (validating state) e (events.subset mem)
  fetched under :=
    ⟨fun state => (sound.fetched under).1 (validating state), fun e mem => (sound.fetched under).2 e
      (events.subset mem)⟩

/-- An event that is no presentation, nor a result while the claim is outstanding, may join those that wait. -/
theorem Lane.EventsSound.joined {head : Head} {fetching : Bool} (sound : ln.EventsSound head place fetching)
    {e : LaneEvent} (notPresentation : e.isPresentation = false)
    (notResult : e.isResult = false ∨ place = none ∧ ∀ x ∈ ln.events, x.isPresentation = false)
    (events : ln'.events = ln.events ++ [e]) (state : ln'.state = ln.state) : ln'.EventsSound head place fetching := by
  have joined {p : LaneEvent → Prop} (before : ∀ x ∈ ln.events, p x) (last : p e) : ∀ x ∈ ln'.events, p x := by
    rw [events]
    intro x mem
    obtain old | new := List.mem_append.mp mem
    · exact before x old
    · rw [List.mem_singleton.mp new]
      exact last
  refine ⟨fun some => joined (sound.answer some) ?_, ?_, fun empty => joined (sound.inHand empty) notPresentation,
    fun validating => joined (sound.validating (state ▸ validating)) notPresentation, fun under =>
    ⟨state ▸ (sound.fetched under).1, joined (sound.fetched under).2 notPresentation⟩⟩
  · obtain other | ⟨untracked, -⟩ := notResult
    · exact other
    · rw [untracked] at some
      cases some
  · rw [events, List.pairwise_append]
    refine ⟨sound.order, List.pairwise_singleton .., fun x mem y last presentation => ?_⟩
    rw [List.mem_singleton.mp last]
    obtain other | ⟨-, none⟩ := notResult
    · exact ⟨notPresentation, other⟩
    · exact absurd presentation (by rw [none x mem]; exact Bool.false_ne_true)

end

/-! ### One lane changed -/

section
variable {s t : State} {l : LaneNo}

/-- A change at one lane keeps the invariant when what it leaves there is sound. -/
theorem State.LanesSound.atLane (sound : s.LanesSound) {f : Lane → Lane} {g : Head → Head} {h : Lines → Lines}
    (own : (f (s.lane l)).Sound (h (s.line l)) (s.place l) s.mgu.clock)
    (events : (f (s.lane l)).EventsSound (g (s.head l)) (s.place l) (s.fetching l)) :
    (s.atLane l f g h).LanesSound := by
  refine sound.laneStep (laneStep_atLane s l f g h) ?_
  rw [State.laneSound, State.lane_atLane_same, State.line_atLane_same, State.head_atLane_same, State.place_atLane]
  exact ⟨own, events⟩

theorem State.LanesSound.quiet (sound : s.LanesSound) (quiet : Quiet l s t) : t.LanesSound := by
  refine sound.laneStep quiet.step ?_
  obtain ⟨state, config, openIntent, seq, passage, events, counters⟩ := quiet.lane
  obtain ⟨arm, latch, passTimer, cancelSet⟩ := quiet.lines
  obtain ⟨own, waiting⟩ := sound l
  rw [State.laneSound, quiet.place, quiet.step.core.mgu, fetching_congr quiet.step.others.bus]
  constructor
  · exact
      { arm := by rw [arm, state]; exact own.arm
        timer := by rw [passTimer, state]; exact own.timer
        latch := by rw [latch, state]; exact own.latch
        cancel := by rw [cancelSet, state]; exact own.cancel
        passage := by rw [passage, state]; exact own.passage
        tracked := by rw [state]; exact own.tracked
        closed := by rw [state, openIntent]; exact own.closed
        clocked := by rw [state, openIntent]; exact own.clocked
        fitted := by rw [openIntent, config]; exact own.fitted
        seq := by rw [seq]; exact own.seq
        windows := by rw [config]; exact own.windows
        counters := counters own.counters }
  · exact
      { answer := by rw [events]; exact waiting.answer
        order := by rw [events]; exact waiting.order
        inHand := by rw [events, quiet.inHand]; exact waiting.inHand
        validating := by rw [events, state]; exact waiting.validating
        fetched := by rw [events, state]; exact waiting.fetched }

/-- An event handed to a lane that is neither a presentation nor a result. -/
theorem State.LanesSound.hand (sound : s.LanesSound) {e : LaneEvent} (notPresentation : e.isPresentation = false)
    (notResult : e.isResult = false) : (s.hand l e).LanesSound := by
  obtain ⟨own, waiting⟩ := sound l
  rw [State.hand_eq_atLane]
  refine sound.atLane ?_ (waiting.joined notPresentation (.inl notResult) rfl rfl)
  exact ⟨own.arm, own.timer, own.latch, own.cancel, own.passage, own.tracked, own.closed, own.clocked, own.fitted, own.seq,
    own.windows, own.counters⟩

/-- The result of the lane's outstanding claim, its tracker place emptied (R80). -/
theorem State.LanesSound.answered (sound : s.LanesSound) {e : TrackerEntry} (place : s.place l = some e) (r : Result) :
    ((s.setPlace l none).handResult l r).LanesSound := by
  obtain ⟨own, waiting⟩ := sound l
  have validating := own.tracked (by rw [place]; rfl)
  refine sound.laneStep ((laneStep_setPlace s l none).trans (laneStep_hand _ l _)) ?_
  have lane : ((s.setPlace l none).handResult l r).lane l =
      { s.lane l with events := (s.lane l).events ++ [.result r] } := State.lane_modLane_same _ l _
  have untracked : ((s.setPlace l none).handResult l r).place l = none := s.place_setPlace_same l none
  rw [State.laneSound, lane, untracked]
  constructor
  · exact ⟨own.arm, own.timer, own.latch, own.cancel, own.passage, nofun, own.closed, own.clocked, own.fitted, own.seq,
      own.windows, own.counters⟩
  · exact Lane.EventsSound.joined (waiting.taken (.refl _) id .inl nofun) rfl
      (.inr ⟨rfl, waiting.validating validating⟩) rfl rfl

theorem State.LanesSound.unreachable (sound : s.LanesSound) {e : TrackerEntry} (place : s.place l = some e)
    (e' : TrackerEntry) : (s.unreachable l e').LanesSound := by
  obtain ⟨r, kept⟩ := unreachable_handed s l e'
  exact (sound.answered place r).of_kept kept

/-! ### Work in flight ended -/

theorem place_endWork (sound : s.LanesSound) (l : LaneNo) : (s.endWork l).place l = none := by
  obtain ⟨own, -⟩ := sound l
  by_cases validating : (s.lane l).state = .validating
  · rw [State.endWork_validating validating]
    have cleared (x : State) : ((x.releasePlace l).clearPresentation l).place l = x.place l :=
      State.place_congr (by simp) l
    rw [cleared]
    cases place : s.place l with
    | some e =>
      rw [State.disown_of_place place]
      exact s.place_setPlace_same l none
    | none =>
      rw [State.disown_of_none place]
      exact place
  · have untracked := own.place_eq_none validating
    by_cases awaiting : (s.lane l).state = .awaitPass
    · have tracker : (s.endWork l).clt.tracker = s.clt.tracker := by
        rw [State.endWork_awaitPass awaiting, State.clearPresentation_eq_atLane]
        unfold State.abandonPassage
        dsimp only
        rw [State.releasePlace_eq_withRequests]
        split
        · split
          · exact (lanesKept_sendNotice s _ _).tracker
          · rfl
        · rfl
        · rfl
      rw [State.place, tracker]
      exact untracked
    · rw [State.endWork_idle validating awaiting, State.clearPresentation_eq_atLane]
      exact untracked

/-- A lane whose work in flight ends and that then stands in a state of its own. -/
theorem State.LanesSound.endWork_atLane (sound : s.LanesSound) {f : Lane → Lane} {g : Head → Head} {h : Lines → Lines}
    (own : (f { s.lane l with current := none, passage := none }).Sound (h (s.line l)) none s.mgu.clock)
    (state : (f { s.lane l with current := none, passage := none }).state ≠ .validating)
    (events : (f { s.lane l with current := none, passage := none }).events.Sublist (s.lane l).events)
    (inHand : (g (s.head l)).inHand = (s.head l).inHand ∨
      ∀ e ∈ (f { s.lane l with current := none, passage := none }).events, e.isPresentation = false) :
    ((s.endWork l).atLane l f g h).LanesSound := by
  refine sound.laneStep ((laneStep_endWork s l).trans (laneStep_atLane _ l f g h)) ?_
  have line : (s.endWork l).line l = s.line l := State.line_congr (by simp) l
  have head : (s.endWork l).head l = s.head l := State.head_congr (by simp) l
  have clock : ((s.endWork l).atLane l f g h).mgu = s.mgu := by simp
  have fetching : ((s.endWork l).atLane l f g h).fetching l = s.fetching l :=
    fetching_congr (by simp) l
  rw [State.laneSound, State.lane_atLane_same, State.line_atLane_same, State.head_atLane_same, State.place_atLane,
    place_endWork sound, State.lane_endWork_same, line, head, fetching, clock]
  exact ⟨own, (sound l).2.taken events (fun validating => absurd validating state)
    (fun empty => inHand.imp_left fun same => same.symm.trans empty) nofun⟩

end

end Sys2Proof.Machine
end

section
/-! SUPPORT. What each row of a lane, and each other step that touches lanes, leaves of `State.LanesSound`. -/

namespace Sys2Proof.Machine

section
variable {s t : State} {l : LaneNo}

/-! ### Passages -/

/-- A passage begins in a lane with a clock and no claim outstanding (R84). -/
theorem State.LanesSound.beginPassage (sound : s.LanesSound) (clock : s.mgu.clock.isSome) (untracked : s.place l = none)
    (p : Passage) (i : Indication) : (s.beginPassage l p i).LanesSound := by
  obtain ⟨own, waiting⟩ := sound l
  rw [passageBegins s l p i]
  refine sound.atLane ?_ ?_
  · exact
      { arm := fun _ => .inl rfl, timer := fun _ => rfl, latch := fun _ => rfl, cancel := fun _ => .inr rfl
        passage := fun _ => rfl, tracked := fun tracked => by rw [untracked] at tracked; cases tracked
        closed := nofun, clocked := fun _ => clock, fitted := own.fitted, seq := own.seq, windows := own.windows
        counters := own.counters }
  · have begun : Lane.EventsSound { s.lane l with passage := some p, state := .awaitPass } (s.head l) (s.place l)
        (s.fetching l) := waiting.taken (.refl _) nofun .inl id
    cases (s.line l).sensorActive with
    | false => exact waiting.taken (.refl _) nofun .inl id
    | true => exact begun.joined rfl (.inl rfl) rfl rfl

/-- A passage completed: the lane settled and at rest (R85). -/
theorem State.LanesSound.completePassage (sound : s.LanesSound) (state : (s.lane l).state = .awaitPass) (p : Passage) :
    (s.completePassage l p).LanesSound := by
  obtain ⟨own, waiting⟩ := sound l
  have untracked := own.place_eq_none (by rw [state]; nofun)
  obtain ⟨x, now, kept, passed⟩ := completePassage_form s l p
  have step := laneStep_completePassage s l p
  rw [passed] at step ⊢
  have lane : x.lane l = s.lane l := kept.lane l
  have line : x.line l = s.line l := kept.line l
  have head : x.head l = s.head l := kept.head l
  have place : x.place l = s.place l := kept.place l
  refine sound.laneStep step ?_
  rw [State.laneSound, State.lane_atLane_same, State.line_atLane_same, State.head_atLane_same, State.place_atLane,
    fetching_congr step.others.bus, step.core.mgu, lane, line, head, place]
  constructor
  · rw [untracked]
    exact own.settles rfl rfl rfl rfl (own.counters.passed p.origin) rfl (Lines.rested_atRest now _)
  · exact waiting.taken (.refl _) (fun validating => absurd validating (s.lane l).settled_holdsNoPlace.1) .inl id

theorem State.LanesSound.takeRotation (sound : s.LanesSound) (latched : Bool) :
    (s.takeRotation l latched).LanesSound := by
  by_cases released : (s.lane l).state = .released
  · rw [State.takeRotation_released latched released]
    exact sound.quiet (quiet_count s l fun _ bounded => bounded.free)
  by_cases forced : (s.lane l).state ≠ .awaitPass ∨ latched = false
  · rw [State.takeRotation_forced released forced]
    exact sound.quiet (quiet_forced s l)
  · obtain ⟨awaiting, latch⟩ := not_or.mp forced
    have state := not_not.mp awaiting
    rw [Bool.not_eq_false] at latch
    subst latch
    cases passage : (s.lane l).passage with
    | some p =>
      rw [State.takeRotation_passage state passage]
      exact sound.completePassage state p
    | none =>
      have unpassaged : s.takeRotation l true = s.forced l := by simp [State.takeRotation, state, passage]
      rw [unpassaged]
      exact sound.quiet (quiet_forced s l)

/-! ### Results -/

/-- What waits at the ZCU is no part of a lane. -/
theorem State.LanesSound.withRequests (sound : s.LanesSound) (rs : List ZoneRequest) : (s.withRequests rs).LanesSound :=
  sound

theorem State.LanesSound.grantResult (sound : s.LanesSound) (state : (s.lane l).state = .validating)
    (untracked : s.place l = none) (m : Message) (a : Nat) (p : Passage) (i : Indication) :
    (s.grantResult l m a p i).LanesSound := by
  have quiet := quiet_dispose s l m a (s.lane l).currentKey
  have clock := (sound l).1.clocked (.inr (.inr (.inl state)))
  exact (sound.quiet quiet).beginPassage (by rwa [quiet.step.core.mgu]) (quiet.place.trans untracked) p i

theorem State.LanesSound.refuseResult (sound : s.LanesSound) (state : (s.lane l).state = .validating)
    (direction : (s.lane l).config.direction = .entry) (untracked : s.place l = none) (m : Message) (a : Nat)
    (i : Indication) : (s.refuseResult l m a i).LanesSound := by
  obtain ⟨own, waiting⟩ := sound l
  obtain ⟨arm, latch, timer⟩ := own.lines_atRest (by rw [state]; nofun) (by rw [state]; nofun)
  rw [State.refuseResult_eq s l m a i direction]
  refine State.LanesSound.withRequests (sound.atLane ?_ ?_) _
  · rw [untracked]
    exact own.settles rfl rfl rfl rfl own.counters.refused rfl ⟨arm, latch, timer, rfl⟩
  · exact waiting.taken (.refl _) (fun validating => absurd validating (s.lane l).settled_holdsNoPlace.1) .inl id

/-- A result taken while no claim is outstanding: it is the answer to the lane's last one (R80 to R82). -/
theorem State.LanesSound.takeResult (sound : s.LanesSound) (untracked : s.place l = none) (r : Result) :
    (s.takeResult l r).LanesSound := by
  by_cases state : (s.lane l).state = .validating
  · cases direction : (s.lane l).config.direction with
    | entry =>
      rw [State.takeResult_entry state direction]
      obtain ⟨m, a, p, i, granted⟩ | ⟨m, a, i, refused | drawn⟩ := s.entryResult_cases l r
      · rw [granted]
        exact sound.grantResult state untracked m a p i
      · rw [refused]
        exact sound.refuseResult state direction untracked m a i
      · rw [drawn]
        exact State.LanesSound.refuseResult (sound.quiet (quiet_freeUsed s l)) state direction untracked m a i
    | exit =>
      rw [State.takeResult_exit state direction]
      obtain ⟨m, a, p, i, granted | drawn⟩ := s.exitResult_cases l r
      · rw [granted]
        exact sound.grantResult state untracked m a p i
      · rw [drawn]
        exact State.LanesSound.grantResult (sound.quiet ((quiet_freeUsed s l).trans (quiet_freeUsed _ l))) state
          untracked m a p i
  · rw [State.takeResult_ignored state]
    exact sound

/-! ### Presentations -/

theorem setPlace_setPlace (s : State) (l : LaneNo) (e e' : Option TrackerEntry) :
    (s.setPlace l e).setPlace l e' = s.setPlace l e' := by
  simp only [State.setPlace, modAt_modAt]
  rfl

/-- A lane in IDLE enters VALIDATING with its claim tracked, when nothing waits that could be taken for its answer
(R79, R125). -/
theorem State.LanesSound.claiming (sound : s.LanesSound) (idle : (s.lane l).state = .idle)
    (clear : ∀ e ∈ (s.lane l).events, e.isPresentation = false ∧ e.isResult = false)
      (notFetching : s.fetching l = false)
    (k : Key) (time : Nat) (e : TrackerEntry) :
    ((s.modLane l (Lane.claiming k time)).setPlace l (some e)).LanesSound := by
  obtain ⟨own, waiting⟩ := sound l
  obtain ⟨arm, latch, timer⟩ := own.lines_atRest (by rw [idle]; nofun) (by rw [idle]; nofun)
  have step := (laneStep_modLane s l (Lane.claiming k time)).trans (laneStep_setPlace _ l (some e))
  refine sound.laneStep step ?_
  have lane : ((s.modLane l (Lane.claiming k time)).setPlace l (some e)).lane l = Lane.claiming k time (s.lane l) :=
    s.lane_modLane_same l _
  rw [State.laneSound, lane, State.place_setPlace_same, fetching_congr step.others.bus, notFetching]
  constructor
  · exact
      { arm := fun free => absurd (arm.symm.trans free) nofun
        timer := fun running => absurd timer (Option.isSome_iff_ne_none.mp running)
        latch := fun armed => absurd latch armed
        cancel := fun _ => .inl rfl
        passage := fun some => absurd (own.passage some) (by rw [idle]; nofun)
        tracked := fun _ => rfl
        closed := nofun
        clocked := fun _ => own.clocked (.inr (.inl idle))
        fitted := own.fitted
        seq := Nat.le_of_lt_succ (Nat.mod_lt _ (by decide))
        windows := own.windows
        counters := own.counters }
  · exact
      { answer := fun _ x mem => (clear x mem).2
        order := waiting.order
        inHand := fun _ x mem => (clear x mem).1
        validating := fun _ x mem => (clear x mem).1
        fetched := nofun }

theorem State.LanesSound.issueClaim (sound : s.LanesSound) (idle : (s.lane l).state = .idle)
    (clear : ∀ e ∈ (s.lane l).events, e.isPresentation = false ∧ e.isResult = false)
      (notFetching : s.fetching l = false)
    (k : Key) (time : Nat) : (s.issueClaim l k time).LanesSound := by
  obtain ⟨e, kept⟩ | ⟨r, kept⟩ := issueClaim_handed s l k time
  · exact (sound.claiming idle clear notFetching k time e).of_kept kept
  · let e : TrackerEntry := ⟨0, k, .entry, 0, 0, .atHome, none⟩
    have answered := (sound.claiming idle clear notFetching k time e).answered (State.place_setPlace_same _ l _) r
    rw [setPlace_setPlace] at answered
    exact answered.of_kept kept

theorem State.LanesSound.of_blocks (sound : s.LanesSound) (lanes : t.lanes = s.lanes) (lbp : t.lbp = s.lbp)
    (tlu : t.tlu = s.tlu) (clt : t.clt = s.clt) (mgu : t.mgu = s.mgu) : t.LanesSound := fun l => by
  rw [State.lane_congr lanes, State.line_congr tlu, State.place_congr clt, State.head_congr lbp, mgu,
    fetching_congr (congrArg Lbp.underWay lbp)]
  exact sound l

theorem State.LanesSound.serveZoneAll (sound : s.LanesSound) (l : LaneNo) : (s.serveZoneAll l).LanesSound :=
  sound.of_blocks (by simp) (by simp) (by simp) (by simp) (by simp)

theorem State.LanesSound.reserve (sound : s.LanesSound) (l : LaneNo) : (s.reserve l).LanesSound := sound

theorem State.LanesSound.takePresentation (sound : s.LanesSound)
    (clear : ∀ e ∈ (s.lane l).events, e.isPresentation = false ∧ e.isResult = false)
      (notFetching : s.fetching l = false)
    (p : Presentation) : (s.takePresentation l p).LanesSound := by
  obtain quiet | ⟨idle, x, k, time, quiet, claim⟩ := takePresentation_cases s l p
  · exact sound.quiet quiet
  · rw [claim]
    have noted := sound.quiet quiet
    have state : (x.lane l).state = .idle := quiet.lane.state.trans idle
    have events : ∀ e ∈ (x.lane l).events, e.isPresentation = false ∧ e.isResult = false := by
      rw [quiet.lane.events]
      exact clear
    have bus : x.fetching l = false := (fetching_congr quiet.step.others.bus l).trans notFetching
    cases direction : (x.lane l).config.direction with
    | exit =>
      rw [State.reserveAndClaim_exit direction]
      exact noted.issueClaim state events bus k time
    | entry =>
      rw [State.reserveAndClaim_entry direction]
      have lane : (x.serveZoneAll l).lane l = x.lane l := State.lane_serveZoneAll x l l
      have reserved : ((x.serveZoneAll l).reserve l).lane l = x.lane l := lane
      have served_bus : ((x.serveZoneAll l).reserve l).fetching l = false := by
        rw [← bus]
        exact fetching_congr (by simp) l
      split
      · exact ((noted.serveZoneAll l).reserve l).issueClaim (by rw [reserved]; exact state)
          (by rw [reserved]; exact events) served_bus k time
      · exact (noted.serveZoneAll l).quiet (quiet_refused _ l _ _ _ _)

/-! ### The events that end work -/

theorem State.LanesSound.eventGone (sound : s.LanesSound) {before after : List LaneEvent} {e : LaneEvent}
    (next : s.nextIs l before e after) : (s.eventGone l before after).LanesSound := by
  obtain ⟨own, waiting⟩ := sound l
  obtain ⟨events, -, -⟩ := next
  rw [State.eventGone, State.modLane_eq_atLane]
  refine sound.atLane ?_ (waiting.taken ?_ id .inl id)
  · exact ⟨own.arm, own.timer, own.latch, own.cancel, own.passage, own.tracked, own.closed, own.clocked, own.fitted, own.seq,
      own.windows, own.counters⟩
  · rw [events]
    exact (List.sublist_cons_self e after).append_left before

/-- A lane that ends its work and settles, dark and at rest. -/
theorem State.LanesSound.endWork_settles (sound : s.LanesSound) {f : Lane → Lane} {g : Head → Head} {h : Lines → Lines}
    (alike : ∀ ln, (f ln).state = (s.lane l).settled ∧ (f ln).openIntent = ln.openIntent ∧ (f ln).config = ln.config ∧
      (f ln).seq = ln.seq ∧ (f ln).counters = ln.counters ∧ (f ln).passage = ln.passage ∧ (f ln).events = ln.events)
    (inHand : (g (s.head l)).inHand = (s.head l).inHand) (rest : (h (s.line l)).AtRest) :
    ((s.endWork l).atLane l f g h).LanesSound := by
  obtain ⟨state, openIntent, config, seq, counters, passage, events⟩ :=
    alike { s.lane l with current := none, passage := none }
  refine sound.endWork_atLane ?_ ?_ ?_ (.inl inHand)
  · exact (sound l).1.settles state openIntent config seq (by rw [counters]; exact (sound l).1.counters) passage rest
  · rw [state]
    exact (s.lane l).settled_holdsNoPlace.1
  · rw [events]

theorem State.LanesSound.takeCancel (sound : s.LanesSound) :
    ((s.modLine l fun x => { x with cancelSet := false }).takeCancel l).LanesSound := by
  by_cases validating : (s.lane l).state = .validating
  · obtain ⟨arm, latch, timer⟩ :=
      (sound l).1.lines_atRest (by rw [validating]; nofun) (by rw [validating]; nofun)
    rw [State.takeCancel_validating validating]
    exact sound.endWork_settles (fun _ => ⟨rfl, rfl, rfl, rfl, rfl, rfl, rfl⟩) rfl ⟨arm, latch, timer, rfl⟩
  by_cases awaiting : (s.lane l).state = .awaitPass
  · rw [State.takeCancel_awaitPass awaiting]
    exact sound.endWork_settles (fun _ => ⟨rfl, rfl, rfl, rfl, rfl, rfl, rfl⟩) rfl ⟨rfl, rfl, rfl, rfl⟩
  · rw [State.takeCancel_ignored (by exact validating) (by exact awaiting), State.modLine_eq_atLane]
    obtain ⟨own, waiting⟩ := sound l
    exact sound.atLane ⟨own.arm, own.timer, own.latch, nofun, own.passage, own.tracked, own.closed, own.clocked, own.fitted,
      own.seq, own.windows, own.counters⟩ waiting

/-- A settled lane keeps the events it had, with no claim outstanding. -/
theorem State.LanesSound.settled_atLane (sound : s.LanesSound) {f : Lane → Lane} {h : Lines → Lines}
    (notValidating : (s.lane l).state ≠ .validating)
    (own : (f (s.lane l)).Sound (h (s.line l)) none s.mgu.clock) (events : (f (s.lane l)).events = (s.lane l).events)
    (left : (f (s.lane l)).state ≠ .validating) : (s.atLane l f id h).LanesSound := by
  have untracked := (sound l).1.place_eq_none notValidating
  refine sound.atLane (by rwa [untracked]) ?_
  exact (sound l).2.taken (by rw [events]) (fun validating => absurd validating left) .inl id

end

end Sys2Proof.Machine
end

section
/-! SUPPORT. `State.LanesSound` through the rows of one lane, the lane bus, the commands for a lane and the resets. -/

namespace Sys2Proof.Machine

section
variable {s t : State} {l : LaneNo}

/-! ### The rows of one lane -/

/-- Events that only a lane's lines answer: everything but the lines' own part of the invariant stands. -/
theorem Lane.Sound.of_lines {ln : Lane} {x x' : Lines} {place : Option TrackerEntry} {clock : Option Nat}
    (sound : ln.Sound x place clock) (arm : x'.arm = x.arm) (timer : x'.passTimer.isSome → x.passTimer.isSome)
    (latch : x'.latch ≠ .disarmed → x.latch ≠ .disarmed)
    (cancel : x'.cancelSet = true → ln.state = .validating ∨ ln.state = .awaitPass) : ln.Sound x' place clock :=
  ⟨fun free => sound.arm (arm ▸ free), fun running => sound.timer (timer running), fun armed => sound.latch
    (latch armed),
    cancel, sound.passage, sound.tracked, sound.closed, sound.clocked, sound.fitted, sound.seq, sound.windows,
    sound.counters⟩

/-- A change of the lines of one lane. -/
theorem State.LanesSound.modLine (sound : s.LanesSound) {h : Lines → Lines}
    (own : (s.lane l).Sound (h (s.line l)) (s.place l) s.mgu.clock) : (s.modLine l h).LanesSound := by
  rw [State.modLine_eq_atLane]
  exact sound.atLane own (sound l).2

/-- A change of what the lines show or read. -/
theorem State.LanesSound.modLine_alike (sound : s.LanesSound) {h : Lines → Lines}
    (alike : (s.line l).Alike (h (s.line l))) : (s.modLine l h).LanesSound := by
  rw [State.modLine_eq_atLane]
  exact sound.quiet (quiet_atLane s l (.refl _) alike rfl)

theorem State.LanesSound.reach (sound : s.LanesSound) (m : Nat) : (s.reach m).LanesSound :=
  sound.of_kept (lanesKept_reach s m)

theorem State.LanesSound.presentationRow (sound : s.LanesSound) {p : Presentation} {rest : List LaneEvent}
    (events : (s.lane l).events = .presentation p :: rest) :
    ((s.presentationGone l rest).takePresentation l p).LanesSound := by
  obtain ⟨own, waiting⟩ := sound l
  have order := waiting.order
  rw [events, List.pairwise_cons] at order
  obtain ⟨behind, -⟩ := order
  have clear (e : LaneEvent) (mem : e ∈ rest) : e.isPresentation = false ∧ e.isResult = false := behind e mem rfl
  have notFetching : s.fetching l = false := by
    cases fetching : s.fetching l with
    | false => rfl
    | true =>
      have none := (waiting.fetched fetching).2 (.presentation p) (by rw [events]; exact List.mem_cons_self)
      cases none
  have gone : (s.presentationGone l rest).LanesSound := by
    refine sound.atLane ?_ (waiting.taken ?_ id (fun _ => .inr fun e mem => (clear e mem).1) id)
    · exact ⟨own.arm, own.timer, own.latch, own.cancel, own.passage, own.tracked, own.closed, own.clocked, own.fitted,
        own.seq, own.windows, own.counters⟩
    · rw [events]
      exact List.sublist_cons_self _ rest
  refine gone.takePresentation ?_ ?_ p
  · rw [State.presentationGone_lane]
    exact clear
  · rw [← notFetching]
    exact fetching_congr rfl l

theorem State.LanesSound.resultRow (sound : s.LanesSound) {r : Result} {before after : List LaneEvent}
    (next : s.nextIs l before (.result r) after) : ((s.eventGone l before after).takeResult l r).LanesSound := by
  refine (sound.eventGone next).takeResult (Option.not_isSome_iff_eq_none.mp fun tracked => ?_) r
  obtain ⟨events, -, -⟩ := next
  have answered := (sound l).2.answer tracked (.result r) (by rw [events]; simp)
  cases answered

/-- Every row of one lane keeps the invariant of the lanes. -/
theorem Effect.lanesSound_lane {i : Instr} (effect : Effect s i t) (row : rowLane i = some l) (sound : s.LanesSound) :
    t.LanesSound := by
  cases effect
  case notDue => exact sound
  case management pins access c rest head named effect =>
    rw [← named, rowLane_row] at row
    exact absurd row nofun
  case bus noLane _ => exact absurd (noLane.symm.trans row) nofun
  case sweepComplete | badCell | goodCell | ringDown | outputCellEnd | claim | passed | abandon | lateUse | holdDeadline
    | verdict | drainLateUse | inputActive | emergencyEdge | inputInactive | clockSecond => cases row
  case zoneServed m named => exact sound.of_blocks (by simp) (by simp) (by simp) (by simp) (by simp)
  case claimTimeout m e d place => exact (sound.reach d).unreachable (by exact place) e
  case presentation m p rest events => exact sound.presentationRow events
  case claimResult m r before after next => exact sound.resultRow next
  case rotation m latched before after next => exact (sound.eventGone next).takeRotation latched
  case passExpiry m before after next =>
    have gone := sound.eventGone next
    rw [State.takeExpiry_eq]
    split
    · exact gone.endWork_settles (fun _ => ⟨rfl, rfl, rfl, rfl, rfl, rfl, rfl⟩) rfl ⟨rfl, rfl, rfl, rfl⟩
    · exact gone
  case cancel m before after next => exact (sound.eventGone next).takeCancel
  case linkLoss m before after next =>
    have gone := sound.eventGone next
    obtain ⟨own, waiting⟩ := gone m
    rw [State.takeLinkLoss_eq]
    split
    · exact gone
    · refine State.LanesSound.of_kept ?_ (lanesKept_report _ _)
      refine gone.endWork_atLane ?_ nofun (.refl _) (.inl rfl)
      exact own.resting (.inr (.inr rfl)) nofun nofun id rfl rfl own.counters rfl ⟨rfl, rfl, rfl, rfl⟩
  case linkRegained m before after next =>
    have gone := sound.eventGone next
    obtain ⟨own, waiting⟩ := gone m
    rw [State.takeLinkRegained_eq]
    split
    next fault =>
      obtain ⟨arm, latch, timer⟩ := own.lines_atRest (by rw [fault]; nofun) (by rw [fault]; nofun)
      have passage := Option.not_isSome_iff_eq_none.mp fun some => absurd (own.passage some) (by rw [fault]; nofun)
      refine State.LanesSound.of_kept ?_ (lanesKept_report _ _)
      exact gone.settled_atLane (by rw [fault]; nofun)
        (own.settles rfl rfl rfl rfl own.counters passage ⟨arm, latch, timer, rfl⟩) rfl
        ((s.eventGone m before after).lane m).settled_holdsNoPlace.1
    next => exact gone
  case emergencyEvent m before after next =>
    have gone := sound.eventGone next
    obtain ⟨own, waiting⟩ := gone m
    rw [State.takeEmergency_eq]
    refine gone.endWork_atLane ?_ nofun (.refl _) (.inl rfl)
    exact
      { arm := fun _ => .inr rfl, timer := nofun, latch := fun armed => absurd rfl armed, cancel := nofun
        passage := nofun, tracked := nofun, closed := nofun
        clocked := fun open_ => own.clocked (.inl (by simpa using open_)), fitted := own.fitted, seq := own.seq
        windows := own.windows, counters := own.counters }
  case latchClearing m before after next =>
    have gone := sound.eventGone next
    obtain ⟨own, waiting⟩ := gone m
    rw [State.takeClearing_eq]
    split
    next released =>
      have passage := Option.not_isSome_iff_eq_none.mp fun some => absurd (own.passage some) (by rw [released]; nofun)
      exact gone.settled_atLane (by rw [released]; nofun)
        (own.settles rfl rfl rfl rfl own.counters passage ⟨rfl, rfl, rfl, rfl⟩) rfl
        ((s.eventGone m before after).lane m).settled_holdsNoPlace.1
    next => exact gone
  case rotationEdge m inactive =>
    refine State.LanesSound.hand (sound.modLine ((sound m).1.of_lines rfl id ?_ (sound m).1.cancel)) rfl rfl
    dsimp only
    split
    next armed =>
      intro _
      rw [beq_iff_eq.mp armed]
      exact nofun
    next => exact id
  case sensorLevelInactive m => exact sound.modLine_alike ⟨rfl, rfl, rfl, rfl⟩
  case passTimerExpired m d timer =>
    have reached := sound.reach d
    refine State.LanesSound.hand (reached.modLine ((reached m).1.of_lines rfl ?_ id (reached m).1.cancel)) rfl rfl
    exact nofun
  case cancelTaken m takes empty =>
    have pressed := sound.modLine_alike (l := m) (h := fun x => { x with buttonPressed := true }) ⟨rfl, rfl, rfl, rfl⟩
    refine State.LanesSound.hand (pressed.modLine ((pressed m).1.of_lines rfl id id fun _ => ?_)) rfl rfl
    change (s.lane m).state = .validating ∨ (s.lane m).state = .awaitPass
    cases state : (s.lane m).state
    case validating => exact .inl rfl
    case awaitPass => exact .inr rfl
    all_goals
      rw [state] at takes
      cases takes
  case buttonPressed m => exact sound.modLine_alike ⟨rfl, rfl, rfl, rfl⟩
  case buttonReleased m => exact sound.modLine_alike ⟨rfl, rfl, rfl, rfl⟩
  case indicationTimeout m timed => exact (sound.reach _).modLine_alike ⟨rfl, rfl, rfl, rfl⟩

/-! ### The lane bus -/

theorem candidate_iff (s : State) (l : LaneNo) :
    s.candidate l = true ↔ (s.lane l).config.fitted = true ∧ 0 < (s.head l).offered ∧ (s.head l).inHand = false ∧
      (s.lane l).state.fetches = true := by
  simp [State.candidate, and_assoc]

/-- What the arbiter chooses is a candidate (R115, R116). -/
theorem arbiter_candidate {pr : Priority} (chosen : s.arbiter = some (pr, l)) : s.candidate l = true := by
  have of_choice {p : Priority} {pointer m : LaneNo} (found : s.choice p pointer = some m) : s.candidate m = true := by
    have holds := List.find?_some found
    rw [Bool.and_eq_true] at holds
    exact holds.1
  unfold State.arbiter at chosen
  split at chosen
  next m found =>
    cases chosen
    exact of_choice found
  next =>
    obtain ⟨m, found, eq⟩ := Option.map_eq_some_iff.mp chosen
    cases eq
    exact of_choice found

/-- A change of the port's items and of the transaction on the bus, which fetches from no lane unasked. -/
theorem State.LanesSound.of_bus (sound : s.LanesSound) (lanes : t.lanes = s.lanes) (tlu : t.tlu = s.tlu)
    (clt : t.clt = s.clt) (mgu : t.mgu = s.mgu) (inHand : ∀ m, (t.head m).inHand = (s.head m).inHand)
    (fetched : ∀ m, t.fetching m = true →
      (s.lane m).state ≠ .validating ∧ ∀ e ∈ (s.lane m).events, e.isPresentation = false) : t.LanesSound := fun m => by
  obtain ⟨own, waiting⟩ := sound m
  rw [State.lane_congr lanes, State.line_congr tlu, State.place_congr clt, mgu]
  exact ⟨own, waiting.answer, waiting.order, by rw [inHand]; exact waiting.inHand, waiting.validating, fetched m⟩

theorem inHand_modHead (s : State) (l m : LaneNo) {g : Head → Head} (same : ∀ h, (g h).inHand = h.inHand) :
    ((s.modHead l g).head m).inHand = (s.head m).inHand := by
  rw [State.head_modHead]
  split
  next eq => rw [same, eq]
  next => rfl

theorem State.LanesSound.modHead (sound : s.LanesSound) {g : Head → Head} (same : ∀ h, (g h).inHand = h.inHand) :
    (s.modHead l g).LanesSound :=
  sound.of_bus rfl rfl rfl rfl (fun m => inHand_modHead s l m same) fun m => (sound m).2.fetched

theorem State.LanesSound.busFree (sound : s.LanesSound) : s.busFree.LanesSound :=
  sound.of_bus rfl rfl rfl rfl (fun _ => rfl) fun m fetching => by
    simp [State.fetching, State.busFree] at fetching

theorem State.LanesSound.missed (sound : s.LanesSound) (l : LaneNo) : (s.missed l).LanesSound := by
  unfold State.missed
  split
  · exact sound
  · split
    · exact sound.modHead fun _ => rfl
    · refine State.LanesSound.hand (sound.modHead ?_) rfl rfl
      exact fun _ => rfl

/-- The presentation fetched from a lane (R117). -/
theorem State.LanesSound.presented (sound : s.LanesSound) (fetching : s.fetching l = true) (p : Presentation)
    {g : Head → Head} (inHand : ∀ h, (g h).inHand = true) :
    ((s.busFree.modHead l g).hand l (.presentation p)).LanesSound := by
  obtain ⟨own, waiting⟩ := sound l
  obtain ⟨state, none⟩ := waiting.fetched fetching
  have untracked := own.place_eq_none state
  have changed : (s.busFree.modHead l g).hand l (.presentation p) =
      s.busFree.atLane l (fun ln => { ln with events := ln.events ++ [.presentation p] }) g id := by
    rw [State.hand_eq_atLane, State.modHead_eq_atLane, State.atLane_atLane]
    rfl
  rw [changed]
  refine sound.busFree.atLane ?_ ?_
  · exact ⟨own.arm, own.timer, own.latch, own.cancel, own.passage, own.tracked, own.closed, own.clocked, own.fitted, own.seq,
      own.windows, own.counters⟩
  · exact
      { answer := fun tracked => absurd untracked (Option.isSome_iff_ne_none.mp tracked)
        order := by
          refine List.pairwise_append.mpr ⟨waiting.order, List.pairwise_singleton .., fun x mem _ _ presentation => ?_⟩
          exact absurd ((none x mem).symm.trans presentation) Bool.false_ne_true
        inHand := fun empty => absurd ((inHand _).symm.trans empty) nofun
        validating := fun validating => absurd validating state
        fetched := fun under => by simp [State.fetching, State.busFree] at under }

theorem BusEffect.lanesSound (effect : BusEffect s t) (sound : s.LanesSound) : t.LanesSound := by
  cases effect with
  | pollBegun l rest free =>
    refine sound.of_bus rfl rfl rfl rfl (fun _ => rfl) fun m fetching => ?_
    simp [State.fetching] at fetching
  | fetchBegun pr l free chosen =>
    refine sound.of_bus rfl rfl rfl rfl (fun m => ?_) fun m fetching => ?_
    · refine (inHand_modHead _ l m ?_).trans ?_
      · exact fun _ => rfl
      · cases pr <;> rfl
    · change (some (Transaction.fetch l) == some (.fetch m)) = true at fetching
      have same : l = m := by simpa using fetching
      obtain ⟨-, -, empty, fetches⟩ := (candidate_iff s l).mp (arbiter_candidate chosen)
      subst same
      refine ⟨fun validating => ?_, (sound l).2.inHand empty⟩
      rw [validating] at fetches
      cases fetches
  | deliveryBegun l d free due waiting =>
    refine sound.of_bus rfl rfl rfl rfl (fun m => inHand_modHead _ l m ?_) fun m fetching => ?_
    · exact fun _ => rfl
    · change (some (Transaction.delivery l d false) == some (.fetch m)) = true at fetching
      simp at fetching
  | polled l count room underWay =>
    unfold State.polled
    split
    · exact sound.busFree
    · dsimp only
      split
      · exact sound.busFree.modHead fun _ => rfl
      · refine State.LanesSound.hand (sound.busFree.modHead ?_) rfl rfl
        exact fun _ => rfl
  | missed l underWay => exact sound.busFree.missed l
  | fetched l answer underWay =>
    unfold State.fetched
    split
    · exact sound.busFree
    · split
      next p => exact sound.presented (by simp [State.fetching, underWay]) p fun _ => rfl
      next => exact sound.busFree.modHead fun _ => rfl
      next =>
        refine State.LanesSound.modHead (g := fun h => { h with waiting := some rescanDisposition })
          (sound.busFree.modHead ?_) ?_
        · exact fun _ => rfl
        · exact fun _ => rfl
  | acknowledged l d gone underWay =>
    split
    · exact sound.busFree.modHead fun _ => rfl
    · exact sound.busFree
  | undelivered l d gone underWay =>
    unfold State.undelivered
    dsimp only
    split
    · exact sound.busFree.missed l
    · exact (sound.busFree.missed l).modHead fun _ => rfl

/-! ### Commands for a lane, and the resets -/

/-- A delivery that is no longer wanted is still no fetch. -/
theorem State.LanesSound.withoutDelivery (sound : s.LanesSound) (l : LaneNo) : (s.withoutDelivery l).LanesSound :=
  sound.of_bus rfl rfl rfl rfl (fun _ => rfl) fun m fetching => by
    refine (sound m).2.fetched ?_
    unfold State.fetching State.withoutDelivery at fetching
    unfold State.fetching
    cases underWay : s.lbp.underWay with
    | none =>
      rw [underWay] at fetching
      cases fetching
    | some x =>
      rw [underWay] at fetching
      cases x with
      | delivery n d gone => cases fetching
      | poll n => exact fetching
      | fetch n => exact fetching

theorem filter_notPresentation (es : List LaneEvent) :
    ∀ e ∈ es.filter (fun e => !e.isPresentation), e.isPresentation = false := by
  intro e mem
  simpa using (List.mem_filter.mp mem).2

theorem State.LanesSound.resetLane (sound : s.LanesSound) (l : LaneNo) : (s.resetLane l).LanesSound := by
  obtain ⟨own, waiting⟩ := sound l
  rw [State.resetLane_eq]
  refine State.LanesSound.withoutDelivery ?_ l
  by_cases released : (s.lane l).state = .released
  · simp only [released, if_true]
    refine sound.endWork_atLane ?_ nofun List.filter_sublist (.inr (filter_notPresentation _))
    exact
      { arm := fun _ => .inr rfl
        timer := fun running => absurd (own.timer running) (by rw [released]; nofun)
        latch := fun armed => absurd (own.latch armed) (by rw [released]; nofun)
        cancel := fun set => absurd (own.cancel set) (by rw [released]; nofun)
        passage := nofun, tracked := nofun, closed := nofun
        clocked := fun open_ => by simp at open_
        fitted := nofun, seq := own.seq, windows := own.windows, counters := own.counters }
  · simp only [released, if_false]
    refine sound.endWork_atLane ?_ nofun List.filter_sublist (.inr (filter_notPresentation _))
    exact own.resting (.inl rfl) (fun _ => rfl) nofun nofun rfl rfl own.counters rfl ⟨rfl, rfl, rfl, rfl⟩

theorem State.LanesSound.configure (sound : s.LanesSound) (closed : (s.lane l).state = .closed) {c : LaneConfig}
    (windows : (2 ≤ c.passWindow ∧ c.passWindow ≤ 30) ∧ c.echoWindow ≤ 5 ∧ (1 ≤ c.staleLimit ∧ c.staleLimit ≤ 10)) :
    (s.configure l c).LanesSound := by
  obtain ⟨own, waiting⟩ := sound l
  have intent := own.closed closed
  have configured (es : List LaneEvent) :
      Lane.Sound { s.lane l with config := c, events := es } (s.line l) (s.place l) s.mgu.clock :=
    ⟨own.arm, own.timer, own.latch, own.cancel, own.passage, own.tracked, own.closed, own.clocked,
      fun intended => absurd (intent.symm.trans intended) Bool.false_ne_true, own.seq, windows, own.counters⟩
  by_cases loses : (s.lane l).config.fitted = true ∧ c.fitted = false
  · rw [State.configure_unfitting loses.1 loses.2]
    refine State.LanesSound.withoutDelivery (sound.atLane (configured _) ?_) l
    exact waiting.taken List.filter_sublist id (fun _ => .inr (filter_notPresentation _)) id
  · rw [State.configure_keeping (by simpa [imp_iff_not_or] using loses), State.modLane_eq_atLane]
    exact sound.atLane (configured _) (waiting.taken (.refl _) id .inl id)

theorem State.LanesSound.laneOpened (sound : s.LanesSound) (fitted : (s.lane l).config.fitted = true)
    (clock : s.mgu.clock ≠ none) :
    (if (s.lane l).state = .closed then
      s.atLane l (fun ln => { ln with openIntent := true, state := .idle }) id fun x => { x with cancelSet := false }
    else s.modLane l fun ln => { ln with openIntent := true }).LanesSound := by
  obtain ⟨own, waiting⟩ := sound l
  have isSome := Option.isSome_iff_ne_none.mpr clock
  split
  next closed =>
    obtain ⟨arm, latch, timer⟩ := own.lines_atRest (by rw [closed]; nofun) (by rw [closed]; nofun)
    have untracked := own.place_eq_none (by rw [closed]; nofun)
    have passage := Option.not_isSome_iff_eq_none.mp fun some => absurd (own.passage some) (by rw [closed]; nofun)
    refine sound.settled_atLane (by rw [closed]; nofun) ?_ rfl nofun
    exact
      { arm := fun free => absurd (arm.symm.trans free) nofun
        timer := fun running => absurd timer (Option.isSome_iff_ne_none.mp running)
        latch := fun armed => absurd latch armed, cancel := nofun
        passage := fun some => absurd passage (Option.isSome_iff_ne_none.mp some), tracked := nofun, closed := nofun
        clocked := fun _ => isSome, fitted := fun _ => fitted, seq := own.seq, windows := own.windows
        counters := own.counters }
  next notClosed =>
    rw [State.modLane_eq_atLane]
    refine sound.atLane ?_ (waiting.taken (.refl _) id .inl id)
    exact ⟨own.arm, own.timer, own.latch, own.cancel, own.passage, own.tracked, fun closed => absurd closed notClosed,
      fun _ => isSome, fun _ => fitted, own.seq, own.windows, own.counters⟩

theorem State.LanesSound.laneClosed (sound : s.LanesSound) (l : LaneNo) :
    (if (s.lane l).state = .idle then
      s.atLane l (fun ln => { ln with openIntent := false, state := .closed }) id
        fun x => { x with cancelSet := false, indication := .dark, shownSince := s.timebase }
    else s.modLane l fun ln => { ln with openIntent := false }).LanesSound := by
  obtain ⟨own, waiting⟩ := sound l
  split
  next idle =>
    obtain ⟨arm, latch, timer⟩ := own.lines_atRest (by rw [idle]; nofun) (by rw [idle]; nofun)
    have passage := Option.not_isSome_iff_eq_none.mp fun some => absurd (own.passage some) (by rw [idle]; nofun)
    refine sound.settled_atLane (by rw [idle]; nofun) ?_ rfl nofun
    exact own.resting (.inl rfl) (fun _ => rfl) nofun nofun rfl rfl own.counters passage ⟨arm, latch, timer, rfl⟩
  next =>
    rw [State.modLane_eq_atLane]
    refine sound.atLane ?_ (waiting.taken (.refl _) id .inl id)
    exact ⟨own.arm, own.timer, own.latch, own.cancel, own.passage, own.tracked, fun _ => rfl,
      fun open_ => own.clocked (open_.elim nofun .inr), nofun, own.seq, own.windows, own.counters⟩

theorem State.line_resetBlocks (s : State) (pins : Pins) (l : LaneNo) :
    (s.resetBlocks pins).line l = pinLines pins s.timebase l := perLane_get _ l

theorem State.place_resetBlocks (s : State) (pins : Pins) (l : LaneNo) : (s.resetBlocks pins).place l = none :=
  Vector.getElem_replicate ..

/-- Every lane as a reset leaves it. -/
theorem lanesSound_resetBlocks (s : State) (pins : Pins) : (s.resetBlocks pins).LanesSound := fun l => by
  have events : ∀ e ∈ (Lane.afterReset (emergencyPin pins)).events, e = .emergency := by
    intro e mem
    unfold Lane.afterReset at mem
    dsimp only at mem
    split at mem
    · exact List.mem_singleton.mp mem
    · cases mem
  have notPresentation : ∀ e ∈ (Lane.afterReset (emergencyPin pins)).events, e.isPresentation = false :=
    fun e mem => by rw [events e mem]; rfl
  rw [State.lane_resetBlocks, State.line_resetBlocks, State.place_resetBlocks]
  constructor
  · exact
      { arm := nofun, timer := nofun, latch := fun armed => absurd rfl armed, cancel := nofun, passage := nofun
        tracked := nofun, closed := fun _ => rfl
        clocked := fun open_ => by simp [Lane.afterReset, Lane.reset] at open_
        fitted := nofun, seq := Nat.zero_le _
        windows := by simp [Lane.afterReset, Lane.reset, LaneConfig.reset]
        counters := by simp [Lane.afterReset, Lane.reset, LaneCounters.zero] }
  · exact
      { answer := nofun
        order := by
          refine List.pairwise_iff_forall_sublist.mpr fun {a b} sub presentation => ?_
          exact absurd ((notPresentation a (sub.subset (by simp))).symm.trans presentation) Bool.false_ne_true
        inHand := fun _ => notPresentation
        validating := nofun
        fetched := nofun }

theorem State.LanesSound.allHanded (sound : s.LanesSound) {e : LaneEvent} (told : e = .emergency ∨ e = .latchClearing) :
    (s.handAll e).LanesSound := fun l => by
  obtain ⟨own, waiting⟩ := sound l
  have plain : e.isPresentation = false ∧ e.isResult = false := by
    obtain rfl | rfl := told <;> exact ⟨rfl, rfl⟩
  have joined := waiting.joined (ln' := { s.lane l with events := (s.lane l).events ++ [e] }) plain.1 (.inl plain.2) rfl
    rfl
  rw [State.lane_handAll]
  exact ⟨⟨own.arm, own.timer, own.latch, own.cancel, own.passage, own.tracked, own.closed, own.clocked, own.fitted, own.seq,
    own.windows, own.counters⟩, joined⟩

/-- A clock that is set stays enough for the lanes. -/
theorem State.LanesSound.clocked (sound : s.LanesSound) (lanes : t.lanes = s.lanes) (lbp : t.lbp = s.lbp)
    (tlu : t.tlu = s.tlu) (clt : t.clt = s.clt) (clock : t.mgu.clock.isSome) : t.LanesSound := fun l => by
  obtain ⟨own, waiting⟩ := sound l
  rw [State.lane_congr lanes, State.line_congr tlu, State.place_congr clt, State.head_congr lbp,
    fetching_congr (congrArg Lbp.underWay lbp)]
  exact ⟨⟨own.arm, own.timer, own.latch, own.cancel, own.passage, own.tracked, own.closed, fun _ => clock, own.fitted,
    own.seq, own.windows, own.counters⟩, waiting⟩

theorem Touched.lanesSound (touched : Touched s t) (sound : s.LanesSound) : t.LanesSound := by
  cases touched with
  | reset pins => exact lanesSound_resetBlocks s pins
  | quotaSet z q => exact sound.of_blocks rfl rfl rfl rfl rfl
  | underflowRead z => exact sound.of_blocks rfl rfl rfl rfl rfl
  | clockSet second => exact sound.clocked rfl rfl rfl rfl rfl
  | secondPassed second clock => exact sound.clocked rfl rfl rfl rfl rfl
  | laneOpened l fitted clock => exact sound.laneOpened fitted clock
  | laneClosed l => exact sound.laneClosed l
  | laneReset l => exact sound.resetLane l
  | exitReleased l idle direction =>
    exact sound.beginPassage ((sound l).1.clocked (.inr (.inl idle))) ((sound l).1.place_eq_none (by rw [idle]; nofun)) _ _
  | entryReleased l idle direction =>
    have reserved := (sound.serveZoneAll l).reserve l
    have lane : ((s.serveZoneAll l).reserve l).lane l = s.lane l := State.lane_serveZoneAll s l l
    have state : (((s.serveZoneAll l).reserve l).lane l).state = .idle := by rw [lane]; exact idle
    exact reserved.beginPassage ((reserved l).1.clocked (.inr (.inl state)))
      ((reserved l).1.place_eq_none (by rw [state]; nofun)) _ _
  | zoneFull l => exact sound.serveZoneAll l
  | countersCleared l => exact sound.quiet (quiet_count s l fun _ _ => by decide)
  | configured l c closed windows => exact sound.configure closed windows
  | allHanded e told => exact sound.allHanded told
  | bus effect => exact effect.lanesSound sound
  | unreachable l e place => exact sound.unreachable place e
  | ringDown => exact unreachableAll_keeps sound fun _ _ e sound place => sound.unreachable place e
  | answered l e v a place => exact sound.answered place _
  | lane row effect => exact effect.lanesSound_lane row sound

theorem State.line_heldInReset (s : State) (l : LaneNo) : s.heldInReset.line l = (s.line l).heldInReset s.timebase :=
  perLane_get _ l

/-- Held in reset, every lane's lines are at rest (section 5.7). -/
theorem State.LanesSound.heldInReset (sound : s.LanesSound) : s.heldInReset.LanesSound := fun l => by
  obtain ⟨own, waiting⟩ := sound l
  rw [State.line_heldInReset]
  exact ⟨⟨nofun, nofun, fun armed => absurd rfl armed, nofun, own.passage, own.tracked, own.closed, own.clocked, own.fitted,
    own.seq, own.windows, own.counters⟩, waiting⟩

end

/-- Settles O11: by what touches the lanes; every other step leaves them, their lines and their events. -/
theorem stepKeepsLanes : Obligations.StepKeepsLanes := by
  intro s t sound stepped
  refine step_keeps (fun _ _ kept sound => sound.of_kept kept) (fun _ _ touched sound => touched.lanesSound sound)
    (fun s sound => ?_) (fun s rest sound => ?_) (fun s sound => sound.heldInReset) sound stepped
  all_goals exact sound.of_blocks rfl rfl rfl rfl rfl

end Sys2Proof.Machine
end

section
/-! SUPPORT. The admission table and the holds through every operation on them (`State.TableSound`; chapters 2 and 3). -/

namespace Sys2Proof.Machine

/-! ### The length of the table -/

theorem Table.wf_tail {x : Nat × Record} {t : Table} (form : Table.wf (x :: t)) :
    Table.wf t ∧ ∀ a ∈ t, x.1 < a.1 := by
  obtain ⟨above, sorted⟩ := List.pairwise_cons.mp form.1
  exact ⟨⟨sorted, fun a mem => form.2 a (List.mem_cons_of_mem _ mem)⟩, above⟩

theorem Table.length_write {t : Table} (form : t.wf) (p : Nat) (r : Record) :
    (t.write p r).length = if (t.read p).isSome then t.length else t.length + 1 := by
  induction t with
  | nil => rfl
  | cons x t ih =>
    obtain ⟨tail, above⟩ := Table.wf_tail form
    by_cases below : p < x.1
    · have unread : Table.read (x :: t) p = none := Table.read_below _ p fun a mem => by
        obtain rfl | mem := List.mem_cons.mp mem
        · exact below
        · exact below.trans (above a mem)
      rw [unread, Table.write, if_pos below]
      rfl
    · by_cases here : p = x.1
      · simp [Table.write, Table.read, here]
      · rw [Table.write, if_neg below, if_neg here, Table.read, if_neg (Ne.symm here), List.length_cons, ih tail,
          List.length_cons]
        split <;> rfl

theorem Table.length_erase {t : Table} {p : Nat} {r : Record} (read : t.read p = some r) :
    (t.erase p).length = t.length - 1 := by
  induction t with
  | nil => cases read
  | cons x t ih =>
    rw [Table.read] at read
    rw [Table.erase]
    split at read
    next here => rw [if_pos here, List.length_cons, Nat.add_sub_cancel]
    next other =>
      have nonempty : 0 < t.length := by
        cases t with
        | nil => cases read
        | cons => exact Nat.succ_pos _
      rw [if_neg other, List.length_cons, ih read, List.length_cons]
      omega

section
variable {s t : State}

theorem State.recordAt_writeRecord (s : State) (p q : Nat) (r : Record) :
    (s.writeRecord p r).recordAt q = if q = p then some r else s.recordAt q := s.adt.table.read_write p q r

theorem State.recordAt_lt (sound : s.TableSound) {p : Nat} {r : Record} (record : s.recordAt p = some r) :
    p < Config.buckets * Config.slots :=
  sound.form.2 _ ((Table.read_eq_some_iff _ sound.form p r).mp record)

/-! ### What leaves the table and the holds -/

/-- The table but for its stream, the holds and the straps stand as they were. -/
structure TableKept (s t : State) : Prop where
  phase : t.adt.phase = s.adt.phase
  table : t.adt.table = s.adt.table
  fill : t.adt.fill = s.adt.fill
  holds : t.hdu.holds = s.hdu.holds
  position : t.grp.position = s.grp.position
  size : t.grp.size = s.grp.size

theorem TableKept.refl (s : State) : TableKept s s := ⟨rfl, rfl, rfl, rfl, rfl, rfl⟩

theorem TableKept.trans {u : State} (first : TableKept s t) (second : TableKept t u) : TableKept s u :=
  ⟨second.phase.trans first.phase, second.table.trans first.table, second.fill.trans first.fill,
    second.holds.trans first.holds, second.position.trans first.position, second.size.trans first.size⟩

theorem TableKept.of_core (core : CoreKept s t) : TableKept s t :=
  ⟨by rw [core.adt], by rw [core.adt], by rw [core.adt], core.holds, core.position, core.size⟩

theorem TableKept.of_blocks (adt : t.adt = s.adt) (hdu : t.hdu = s.hdu) (grp : t.grp = s.grp) : TableKept s t :=
  ⟨by rw [adt], by rw [adt], by rw [adt], by rw [hdu], by rw [grp], by rw [grp]⟩

theorem TableKept.recordAt (kept : TableKept s t) (p : Nat) : t.recordAt p = s.recordAt p := by
  rw [State.recordAt, State.recordAt, kept.table]

theorem TableKept.holdAt (kept : TableKept s t) (i : HoldNo) : t.holdAt i = s.holdAt i := by
  rw [State.holdAt, State.holdAt, kept.holds]

theorem State.TableSound.of_kept (sound : s.TableSound) (kept : TableKept s t) : t.TableSound where
  form := kept.table ▸ sound.form
  records := by
    simp only [kept.phase, kept.recordAt, kept.position, kept.size]
    exact sound.records
  keys := by
    simp only [kept.phase, kept.recordAt]
    exact sound.keys
  fill := by
    rw [kept.phase, kept.fill, kept.table]
    exact sound.fill
  held := by
    simp only [kept.phase, kept.recordAt, kept.holdAt]
    exact sound.held
  holds := by
    simp only [kept.recordAt, kept.holdAt]
    exact sound.holds
  tags := by
    simp only [kept.holdAt]
    exact sound.tags
  sweeping := by
    simp only [kept.phase, kept.fill, kept.holdAt]
    exact sound.sweeping

theorem tableKept_report (s : State) (r : Report) : TableKept s (s.report r) :=
  ⟨rfl, rfl, rfl, rfl, (s.report_straps r).1, (s.report_straps r).2⟩

theorem tableKept_offer (s : State) (c : LocalCell) : TableKept s (s.offer c) :=
  ⟨rfl, rfl, rfl, rfl, (s.offer_straps c).1, (s.offer_straps c).2⟩

theorem tableKept_deliverVerdict (s : State) (t : Tag) (k : Key) (v : Verdict) (a : Nat) :
    TableKept s (s.deliverVerdict t k v a) := by
  unfold State.deliverVerdict
  split
  · exact .of_blocks rfl rfl rfl
  · exact tableKept_offer s _

theorem tableKept_join (s : State) (e : Intake) : TableKept s { s with hdu := s.hdu.join e } :=
  ⟨rfl, rfl, rfl, s.hdu.join_holds e, rfl, rfl⟩

theorem tableKept_offerIntake (s : State) (e : Intake) : TableKept s (s.offerIntake e) := by
  unfold State.offerIntake
  split
  · split
    · exact tableKept_join s _
    · exact tableKept_deliverVerdict s _ _ _ _
  · exact tableKept_join s _

theorem tableKept_sendNotice (s : State) (e : Intake) (k : Key) : TableKept s (s.sendNotice e k) := by
  unfold State.sendNotice
  dsimp only
  split
  · exact tableKept_offerIntake s e
  · exact tableKept_offer s _

theorem tableKept_reportDuplicate (s : State) (kind : Kind) (u : UseFields) (k : Key) (o : Occasion) (time : Nat)
    (origin : UseOrigin) : TableKept s (s.reportDuplicate kind u k o time origin) := by
  unfold State.reportDuplicate
  split
  · exact tableKept_report s _
  · exact .refl s

/-! ### Records rewritten -/

/-- A record replaced by one with the same key and the same hold. -/
theorem State.TableSound.rewrite (sound : s.TableSound) {p : Nat} {r r' : Record} (record : s.recordAt p = some r)
    (key : r'.key = r.key) (hold : r'.hold = r.hold)
    (valid : r.sound s.grp.position s.grp.size p → r'.sound s.grp.position s.grp.size p) :
    (s.writeRecord p r').TableSound where
  form := Table.write_wf _ p r' sound.form (State.recordAt_lt sound record)
  records ready q x read := by
    rw [State.recordAt_writeRecord] at read
    split at read
    next here =>
      cases read
      subst here
      exact valid (sound.records ready q r record)
    next => exact sound.records ready q x read
  keys ready q w x y read read' same := by
    rw [State.recordAt_writeRecord] at read read'
    split at read <;> split at read'
    next here here' => rw [here, here']
    next here other =>
      cases read
      exact here ▸ sound.keys ready p w r y record read' (key.symm.trans same)
    next other here =>
      cases read'
      exact here ▸ sound.keys ready q p x r read record (same.trans key)
    next => exact sound.keys ready q w x y read read' same
  fill ready := by
    have known : (s.adt.table.read p).isSome = true := by
      rw [show s.adt.table.read p = some r from record]
      rfl
    change s.adt.fill = (s.adt.table.write p r').length
    rw [Table.length_write sound.form, if_pos known]
    exact sound.fill ready
  held ready q x i read held := by
    rw [State.recordAt_writeRecord] at read
    split at read
    next here =>
      cases read
      subst here
      exact sound.held ready q r i record (hold.symm.trans held)
    next => exact sound.held ready q x i read held
  holds i h live := by
    obtain ⟨⟨x, read, held⟩, snapshot⟩ := sound.holds i h live
    refine ⟨?_, snapshot⟩
    rw [State.recordAt_writeRecord]
    split
    next here =>
      rw [here, record] at read
      cases read
      exact ⟨r', rfl, hold.trans held⟩
    next => exact ⟨x, read, held⟩
  tags := sound.tags
  sweeping := sound.sweeping

theorem useOutcome_sound {u : UseFields} (sound : u.sound) (kind : Kind) (time : Nat) :
    (useOutcome kind time u).sound := by
  obtain ⟨reentries, fresh⟩ := sound
  cases kind <;> cases use : u.use <;> simp only [useOutcome, use]
  · exact ⟨reentries, nofun⟩
  · exact ⟨reentries, fresh⟩
  · refine ⟨?_, nofun⟩
    dsimp only
    split <;> omega
  · exact ⟨reentries, fresh⟩
  · exact ⟨reentries, nofun⟩
  · exact ⟨reentries, fresh⟩

/-! ### Holds -/

/-- A hold's record, by the invariant. -/
theorem State.TableSound.holdRecord (sound : s.TableSound) {i : HoldNo} {h : Hold} (live : s.holdAt i = some h) :
    s.adt.phase = .ready ∧ ∃ r, s.recordAt h.position = some r ∧ r.hold = some i := by
  refine ⟨?_, (sound.holds i h live).1⟩
  cases phase : s.adt.phase with
  | ready => rfl
  | sweeping =>
    have none_live := (sound.sweeping phase).2 i
    rw [live] at none_live
    cases none_live

/-- Two live holds on one record are one. -/
theorem State.TableSound.hold_unique (sound : s.TableSound) {i j : HoldNo} {h g : Hold} (live : s.holdAt i = some h)
    (live' : s.holdAt j = some g) (position : g.position = h.position) : j = i := by
  obtain ⟨-, r, record, held⟩ := sound.holdRecord live
  obtain ⟨-, x, record', held'⟩ := sound.holdRecord live'
  rw [position, record] at record'
  cases record'
  exact Option.some.inj (held'.symm.trans held)

/-- A hold ended: its record and its entry let go of each other (R53, R55, R56). -/
theorem State.TableSound.endHold (sound : s.TableSound) {i : HoldNo} {h : Hold} (live : s.holdAt i = some h)
    {u : UseFields} (valid : u.sound) : (s.endHold i h u).TableSound := by
  obtain ⟨ready, r, record, held⟩ := sound.holdRecord live
  rw [State.endHold_of_recordAt record]
  let x := (s.writeRecord h.position { r with uses := u, hold := none }).setHold i none
  have read (q : Nat) : x.recordAt q =
      if q = h.position then some { r with uses := u, hold := none } else s.recordAt q :=
    s.recordAt_writeRecord h.position q _
  have holdAt (j : HoldNo) : x.holdAt j = if j = i then none else s.holdAt j := State.holdAt_setHold _ i j none
  have other {j : HoldNo} {g : Hold} (live' : x.holdAt j = some g) : j ≠ i ∧ s.holdAt j = some g := by
    rw [holdAt] at live'
    split at live'
    · cases live'
    · exact ⟨‹_›, live'⟩
  change x.TableSound
  exact
    { form := Table.write_wf _ _ _ sound.form (State.recordAt_lt sound record)
      records := fun _ q y read' => by
        rw [read] at read'
        split at read'
        next here =>
          cases read'
          obtain ⟨formed, home, bucket, zones, hours, -⟩ := sound.records ready h.position r record
          exact ⟨formed, home, here ▸ bucket, zones, hours, valid⟩
        next => exact sound.records ready q y read'
      keys := fun _ q w y z read' read'' same => by
        rw [read] at read' read''
        split at read' <;> split at read''
        next here here' => rw [here, here']
        next here _ =>
          cases read'
          exact here ▸ sound.keys ready _ w r z record read'' same
        next _ here =>
          cases read''
          exact here ▸ sound.keys ready q _ y r read' record same
        next => exact sound.keys ready q w y z read' read'' same
      fill := fun _ => by
        have known : (s.adt.table.read h.position).isSome = true := by
          rw [show s.adt.table.read h.position = some r from record]
          rfl
        change s.adt.fill = (s.adt.table.write h.position _).length
        rw [Table.length_write sound.form, if_pos known]
        exact sound.fill ready
      held := fun _ q y j read' held' => by
        rw [read] at read'
        split at read'
        next => cases read'; cases held'
        next elsewhere =>
          obtain ⟨g, live', position⟩ := sound.held ready q y j read' held'
          refine ⟨g, ?_, position⟩
          rw [holdAt, if_neg fun same => ?_]
          · exact live'
          · rw [same, live] at live'
            cases live'
            exact elsewhere position.symm
      holds := fun j g live' => by
        obtain ⟨ne, live'⟩ := other live'
        obtain ⟨⟨y, read', held'⟩, snapshot⟩ := sound.holds j g live'
        refine ⟨⟨y, ?_, held'⟩, snapshot⟩
        rw [read, if_neg fun same => ne (sound.hold_unique live live' same)]
        exact read'
      tags := fun j k g g' live' live'' same => sound.tags j k g g' (other live').2 (other live'').2 same
      sweeping := fun sweeping => absurd (ready.symm.trans sweeping) nofun }

theorem State.TableSound.lapse (sound : s.TableSound) {i : HoldNo} {h : Hold} (live : s.holdAt i = some h)
    (c : LapseCause) : (s.lapse i h c).TableSound := by
  have ended := sound.endHold live (sound.holds i h live).2
  unfold State.lapse
  split
  · exact ended.of_kept (tableKept_report _ _)
  · exact ended

theorem State.TableSound.lapseIfOverdue (sound : s.TableSound) (i : HoldNo) : (s.lapseIfOverdue i).TableSound := by
  unfold State.lapseIfOverdue
  split
  next h live =>
    split
    · exact sound.lapse live _
    · exact sound
  · exact sound

theorem State.TableSound.lapseOverdue (sound : s.TableSound) : s.lapseOverdue.TableSound := by
  unfold State.lapseOverdue
  generalize holdNos = is
  induction is generalizing s with
  | nil => exact sound
  | cons i is ih => exact ih (sound.lapseIfOverdue i)

/-- The lapse of a hold leaves the other holds as they are, and its own entry free. -/
theorem State.holdAt_lapse (s : State) (i j : HoldNo) (h : Hold) (c : LapseCause) :
    (s.lapse i h c).holdAt j = if j = i then none else s.holdAt j := by
  have ended (u : UseFields) : (s.endHold i h u).holdAt j = if j = i then none else s.holdAt j := by
    have kept : (s.releaseRecord h.position u).holdAt j = s.holdAt j := State.holdAt_congr (by simp) j
    rw [State.endHold, State.holdAt_setHold, kept]
  unfold State.lapse
  split <;> exact ended _

/-- Once a reused tag has been cleared, no live hold has it (R43). -/
theorem State.TableSound.lapseReused (sound : s.TableSound) (t : Tag) :
    (s.lapseReused t).TableSound ∧ ∀ i h, (s.lapseReused t).holdAt i = some h → h.tag ≠ t := by
  unfold State.lapseReused
  split
  next i found =>
    obtain ⟨h, live, tag⟩ := State.holdOfTag_some found
    rw [live]
    refine ⟨sound.lapse live _, fun j g live' same => ?_⟩
    rw [State.holdAt_lapse] at live'
    split at live'
    · cases live'
    next ne => exact ne (sound.tags j i g h live' live (same.trans tag.symm))
  next absent =>
    refine ⟨sound, fun i h live same => ?_⟩
    have none_tagged := List.find?_eq_none.mp absent i (mem_holdNos i)
    rw [live] at none_tagged
    exact none_tagged (by simp [same])

/-- A grant's hold: a free entry and a free record take each other (R51). -/
theorem State.TableSound.createHold (sound : s.TableSound) (ready : s.adt.phase = .ready) {i : HoldNo} {t : Tag} {p : Nat}
    {r : Record} (free : s.holdAt i = none) (fresh : ∀ j h, s.holdAt j = some h → h.tag ≠ t)
    (record : s.recordAt p = some r) (unheld : r.hold = none) (kind : Kind) :
    (s.createHold i t p kind r).TableSound := by
  have rewritten : (s.writeRecord p { r with hold := some i }).adt.fill =
      (s.writeRecord p { r with hold := some i }).adt.table.length := by
    have known : (s.adt.table.read p).isSome = true := by
      rw [show s.adt.table.read p = some r from record]
      rfl
    change s.adt.fill = (s.adt.table.write p _).length
    rw [Table.length_write sound.form, if_pos known]
    exact sound.fill ready
  have read (q : Nat) : (s.createHold i t p kind r).recordAt q =
      if q = p then some { r with hold := some i } else s.recordAt q := s.recordAt_writeRecord p q _
  let h : Hold := ⟨t, p, kind, r.uses, s.timebase + s.mgu.settings.holdLimit * 1000⟩
  have holdAt (j : HoldNo) : (s.createHold i t p kind r).holdAt j = if j = i then some h else s.holdAt j :=
    State.holdAt_setHold _ i j (some h)
  have valid := sound.records ready p r record
  have elsewhere {j : HoldNo} {g : Hold} (live : s.holdAt j = some g) : g.position ≠ p := by
    obtain ⟨⟨y, read', held⟩, -⟩ := sound.holds j g live
    rintro rfl
    rw [record] at read'
    cases read'
    rw [unheld] at held
    cases held
  exact
    { form := Table.write_wf _ _ _ sound.form (State.recordAt_lt sound record)
      records := fun _ q y read' => by
        rw [read] at read'
        split at read'
        next here =>
          cases read'
          exact here ▸ valid
        next => exact sound.records ready q y read'
      keys := fun _ q w y z read' read'' same => by
        rw [read] at read' read''
        split at read' <;> split at read''
        next here here' => rw [here, here']
        next here _ =>
          cases read'
          exact here ▸ sound.keys ready _ w r z record read'' same
        next _ here =>
          cases read''
          exact here ▸ sound.keys ready q _ y r read' record same
        next => exact sound.keys ready q w y z read' read'' same
      fill := fun _ => rewritten
      held := fun _ q y j read' held => by
        rw [read] at read'
        split at read'
        next here =>
          cases read'
          cases held
          exact ⟨h, by rw [holdAt, if_pos rfl], here.symm⟩
        next =>
          obtain ⟨g, live, position⟩ := sound.held ready q y j read' held
          refine ⟨g, ?_, position⟩
          rw [holdAt, if_neg fun same => by rw [same, free] at live; cases live]
          exact live
      holds := fun j g live => by
        rw [holdAt] at live
        split at live
        next same =>
          cases live
          obtain ⟨-, -, -, -, -, uses⟩ := valid
          exact ⟨⟨{ r with hold := some i }, by rw [read, if_pos rfl], by rw [same]⟩, uses⟩
        next =>
          obtain ⟨⟨y, read', held⟩, snapshot⟩ := sound.holds j g live
          exact ⟨⟨y, by rw [read, if_neg (elsewhere live)]; exact read', held⟩, snapshot⟩
      tags := fun j k g g' live live' same => by
        rw [holdAt] at live live'
        split at live <;> split at live'
        next here here' => rw [here, here']
        next =>
          cases live
          exact absurd same.symm (fresh k g' live')
        next =>
          cases live'
          exact absurd same (fresh j g live)
        next => exact sound.tags j k g g' live live' same
      sweeping := fun sweeping => absurd (ready.symm.trans sweeping) nofun }

/-- A held record's use is applied to the hold's snapshot (R59). -/
theorem State.TableSound.resnap (sound : s.TableSound) {i : HoldNo} {h : Hold} (live : s.holdAt i = some h)
    {u : UseFields}
    (valid : u.sound) : (s.setHold i (some { h with snapshot := u })).TableSound := by
  have holdAt (j : HoldNo) : (s.setHold i (some { h with snapshot := u })).holdAt j =
      if j = i then some { h with snapshot := u } else s.holdAt j := State.holdAt_setHold _ i j _
  have alike {j : HoldNo} {g : Hold} (live' : (s.setHold i (some { h with snapshot := u })).holdAt j = some g) :
      ∃ g', s.holdAt j = some g' ∧ g.position = g'.position ∧ g.tag = g'.tag ∧
        (g'.snapshot.sound → g.snapshot.sound) := by
    rw [holdAt] at live'
    split at live'
    next same =>
      cases live'
      exact ⟨h, same ▸ live, rfl, rfl, fun _ => valid⟩
    next => exact ⟨g, live', rfl, rfl, id⟩
  exact
    { form := sound.form, records := sound.records, keys := sound.keys, fill := sound.fill
      held := fun ready q y j read held => by
        obtain ⟨g, live', position⟩ := sound.held ready q y j read held
        rw [holdAt]
        split
        next same =>
          rw [same, live] at live'
          cases live'
          exact ⟨_, rfl, position⟩
        next => exact ⟨g, live', position⟩
      holds := fun j g live' => by
        obtain ⟨g', old, position, -, keeps⟩ := alike live'
        obtain ⟨on, snapshot⟩ := sound.holds j g' old
        rw [position]
        exact ⟨on, keeps snapshot⟩
      tags := fun j k g g' live' live'' same => by
        obtain ⟨h1, old, -, tag, -⟩ := alike live'
        obtain ⟨h2, old', -, tag', -⟩ := alike live''
        exact sound.tags j k h1 h2 old old' (by rw [← tag, ← tag', same])
      sweeping := fun sweeping => by
        obtain ⟨ready, -⟩ := sound.holdRecord live
        exact absurd (ready.symm.trans sweeping) nofun }

/-! ### Uses and decisions -/

theorem State.TableSound.applyUse (sound : s.TableSound) (k : Key) (kind : Kind) (time : Nat) (o : UseOrigin) :
    (s.applyUse k kind time o).TableSound := by
  have unknown (r : Report) : (s.report r).TableSound := sound.of_kept (tableKept_report s r)
  unfold State.applyUse
  split
  · exact unknown _
  next notSweeping =>
    split
    · exact unknown _
    next p found =>
      split
      · exact unknown _
      next r record =>
        split
        next unheld =>
          have rewritten : (s.writeRecord p { r with uses := useOutcome kind time r.uses }).TableSound :=
            sound.rewrite record rfl rfl fun valid => by
              obtain ⟨formed, home, bucket, zones, hours, uses⟩ := valid
              exact ⟨formed, home, bucket, zones, hours, useOutcome_sound uses kind time⟩
          exact rewritten.of_kept (tableKept_reportDuplicate _ _ _ _ _ _ _)
        next i held =>
          split
          next h live =>
            exact (sound.resnap live (useOutcome_sound (sound.holds i h live).2 kind time)).of_kept
              (tableKept_reportDuplicate _ _ _ _ _ _ _)
          · exact sound

/-- Only a free record is granted (R44, R47). -/
theorem claimVerdict_grants {found : Option Record} {a : Asked} {free : Bool} {r : Record}
    (grants : (claimVerdict found a free).1.grants = true) (record : found = some r) : r.hold = none := by
  subst record
  unfold claimVerdict at grants
  split at grants
  · unfold entryVerdict at grants
    dsimp only at grants
    by_contra held
    have isSome : r.hold.isSome = true := Option.isSome_iff_ne_none.mpr held
    rw [if_pos isSome] at grants
    revert grants
    (repeat' split) <;> exact nofun
  · unfold exitVerdict at grants
    dsimp only at grants
    by_contra held
    have isSome : r.hold.isSome = true := Option.isSome_iff_ne_none.mpr held
    rw [if_pos isSome] at grants
    revert grants
    (repeat' split) <;> exact nofun

theorem State.find_some {k : Key} {p : Nat} {r : Record} (found : s.find k = some (p, r)) : s.recordAt p = some r := by
  unfold State.find at found
  split at found
  next q _ =>
    obtain ⟨x, record, same⟩ := Option.map_eq_some_iff.mp found
    cases same
    exact record
  · cases found

theorem State.TableSound.decide (sound : s.TableSound) {t : Tag} (fresh : ∀ j h, s.holdAt j = some h → h.tag ≠ t) (k : Key)
    (a : Asked) : (s.decide t k a).TableSound := by
  unfold State.decide
  split
  · exact sound.of_kept (tableKept_deliverVerdict s _ _ _ _)
  next notSweeping =>
    have ready : s.adt.phase = .ready := by
      cases phase : s.adt.phase with
      | ready => rfl
      | sweeping => exact absurd phase notSweeping
    dsimp only
    split
    next p r i grants found entry =>
      have free : s.holdAt i = none := by
        have isNone := List.find?_some entry
        simpa using isNone
      have unheld : r.hold = none := claimVerdict_grants grants (by rw [found]; rfl)
      exact (sound.createHold ready free fresh (State.find_some found) unheld a.kind).of_kept
        (tableKept_deliverVerdict _ _ _ _ _)
    · exact sound.of_kept (tableKept_deliverVerdict s _ _ _ _)

theorem State.matchedHold_some {t : Tag} {k : Key} {i : HoldNo} {h : Hold} (found : s.matchedHold t k = some (i, h)) :
    s.holdAt i = some h := by
  unfold State.matchedHold at found
  split at found
  · split at found
    · split at found
      · cases found
        assumption
      · cases found
    · cases found
  · cases found

/-! ### Records inserted and erased -/

/-- What an image that passes the four tests of R22 is. -/
theorem Image.fault_eq_none {im : Image} {position size : Nat} (passed : im.fault position size = none) :
    im.key.formed = true ∧ im.static.zones ≠ 0 ∧ im.static.openMinute < im.static.closeMinute ∧
      im.key.home size = position := by
  unfold Image.fault at passed
  split at passed
  · cases passed
  next formed =>
    split at passed
    · cases passed
    next zones =>
      split at passed
      · cases passed
      next hours =>
        split at passed
        · cases passed
        next home =>
          exact ⟨by simpa using formed, by simpa using zones, Nat.not_le.mp hours, not_not.mp home⟩

/-- A position's bucket, from the range of the bucket's slots. -/
theorem div_eq_of_bucket {b p : Nat} (within : b * 8 ≤ p ∧ p < b * 8 + 8) : p / 8 = b := by omega

/-- An upsert keeps the table sound (R22 to R24). -/
theorem State.TableSound.upsert (sound : s.TableSound) (ready : s.adt.phase = .ready) (im : Image) :
    State.TableSound { s with adt := (s.adt.upsert s.grp.position s.grp.size im).adt } := by
  unfold Adt.upsert
  split
  · exact sound
  next passed =>
    obtain ⟨formed, zones, hours, home⟩ := Image.fault_eq_none passed
    split
    next p found =>
      split
      next r record =>
        refine sound.rewrite record rfl rfl fun valid => ?_
        obtain ⟨formed', home', bucket, -, -, uses⟩ := valid
        exact ⟨formed', home', bucket, zones, hours, uses⟩
      · exact sound
    next absent =>
      split
      next p vacant =>
        obtain ⟨within, empty⟩ := Table.vacant_some vacant
        have read (q : Nat) : (s.adt.table.write p im.inserted).read q =
            if q = p then some im.inserted else s.recordAt q := Table.read_write _ p q _
        have unfiled {q : Nat} {r : Record} (record : s.recordAt q = some r) : r.key ≠ im.key := by
          intro same
          obtain ⟨-, -, bucket, -⟩ := sound.records ready q r record
          rw [same] at bucket
          exact Table.lookup_none absent (by omega) record same
        exact
          { form := Table.write_wf _ _ _ sound.form (bucket_position_lt _ _ _ within.2)
            records := fun _ q r record => by
              rw [State.recordAt, read] at record
              split at record
              next here =>
                cases record
                subst here
                exact ⟨formed, home, div_eq_of_bucket within, zones, hours, Nat.zero_le _, fun _ => ⟨rfl, rfl⟩⟩
              next => exact sound.records ready q r record
            keys := fun _ q w r x record record' same => by
              rw [State.recordAt, read] at record record'
              split at record <;> split at record'
              next here here' => rw [here, here']
              next =>
                cases record
                exact absurd same.symm (unfiled record')
              next =>
                cases record'
                exact absurd same (unfiled record)
              next => exact sound.keys ready q w r x record record' same
            fill := fun _ => by
              change s.adt.fill + 1 = (s.adt.table.write p im.inserted).length
              rw [Table.length_write sound.form, empty, sound.fill ready]
              rfl
            held := fun _ q r i record held => by
              rw [State.recordAt, read] at record
              split at record
              next =>
                cases record
                cases held
              next => exact sound.held ready q r i record held
            holds := fun i h live => by
              obtain ⟨⟨r, record, held⟩, snapshot⟩ := sound.holds i h live
              refine ⟨⟨r, ?_, held⟩, snapshot⟩
              rw [State.recordAt, read, if_neg fun same => ?_]
              · exact record
              · rw [same, State.recordAt, empty] at record
                cases record
            tags := sound.tags
            sweeping := fun sweeping => absurd (ready.symm.trans sweeping) nofun }
      · exact sound

/-- A free record erased (R28). -/
theorem State.TableSound.erase (sound : s.TableSound) (ready : s.adt.phase = .ready) {p : Nat} {r : Record}
    (record : s.recordAt p = some r) (unheld : r.hold = none) :
    State.TableSound { s with adt := { s.adt with table := s.adt.table.erase p, fill := s.adt.fill - 1 } } := by
  have read (q : Nat) : (s.adt.table.erase p).read q = if q = p then none else s.recordAt q :=
    Table.read_erase _ p q sound.form
  have other {q : Nat} {x : Record} (record' : (s.adt.table.erase p).read q = some x) : s.recordAt q = some x := by
    rw [read] at record'
    split at record'
    · cases record'
    · exact record'
  exact
    { form := Table.erase_wf _ p sound.form
      records := fun _ q x record' => sound.records ready q x (other record')
      keys := fun _ q w x y record' record'' same => sound.keys ready q w x y (other record') (other record'') same
      fill := fun _ => by
        change s.adt.fill - 1 = (s.adt.table.erase p).length
        rw [Table.length_erase (r := r) record, sound.fill ready]
      held := fun _ q x i record' held => sound.held ready q x i (other record') held
      holds := fun i h live => by
        obtain ⟨⟨x, record', held⟩, snapshot⟩ := sound.holds i h live
        refine ⟨⟨x, ?_, held⟩, snapshot⟩
        rw [State.recordAt, read, if_neg fun same => ?_]
        · exact record'
        · rw [same, record] at record'
          cases record'
          rw [unheld] at held
          cases held
      tags := sound.tags
      sweeping := fun sweeping => absurd (ready.symm.trans sweeping) nofun }

end

end Sys2Proof.Machine
end

section
/-! SUPPORT. Every step keeps the admission table and the hold table sound (O10). -/

namespace Sys2Proof.Machine

section
variable {s t : State}

/-! ### Steps that leave the table and the holds -/

theorem TableKept.after {u : State} (second : TableKept t u) (first : TableKept s t) : TableKept s u := first.trans second

theorem TableKept.report (kept : TableKept s t) (r : Report) : TableKept s (t.report r) :=
  kept.trans (tableKept_report t r)

theorem tableKept_busFree (s : State) : TableKept s s.busFree := .of_blocks rfl rfl rfl

theorem missed_tableKept (s : State) (l : LaneNo) : TableKept s (s.missed l) := by
  unfold State.missed
  (repeat' split) <;> exact .of_blocks rfl rfl rfl

theorem BusEffect.tableKept (effect : BusEffect s t) : TableKept s t := by
  cases effect with
  | pollBegun | fetchBegun | deliveryBegun => exact .of_blocks rfl rfl rfl
  | polled l count room underWay =>
    unfold State.polled
    (repeat' split) <;> exact .of_blocks rfl rfl rfl
  | missed l underWay => exact (tableKept_busFree s).trans (missed_tableKept s.busFree l)
  | fetched l answer underWay =>
    unfold State.fetched
    (repeat' split) <;> exact .of_blocks rfl rfl rfl
  | acknowledged l d gone underWay => split <;> exact .of_blocks rfl rfl rfl
  | undelivered l d gone underWay =>
    have missed : TableKept s (s.busFree.missed l) :=
      (tableKept_busFree s).trans (missed_tableKept s.busFree l)
    unfold State.undelivered
    dsimp only
    split
    · exact missed
    · exact missed.trans (.of_blocks rfl rfl rfl)

theorem tableKept_countRing (s : State) (f : RingCounters → RingCounters) : TableKept s (s.countRing f) :=
  ⟨rfl, rfl, rfl, rfl, rfl, rfl⟩

theorem tableKept_consume (s : State) (cell : List Byte) : TableKept s (s.consume cell) := by
  unfold State.consume
  split
  · exact tableKept_offerIntake s _
  · split
    · exact ⟨rfl, rfl, rfl, rfl, rfl, rfl⟩
    · split
      · exact ⟨rfl, rfl, rfl, rfl, rfl, rfl⟩
      · exact tableKept_countRing s _

theorem tableKept_returned (s : State) (cell : List Byte) : TableKept s (s.returned cell) := by
  unfold State.returned
  split
  · unfold State.claimReturned
    (repeat' split)
    case isTrue => exact .of_core (laneStep_unreachable _ _ _).core
    all_goals exact .refl s
  · unfold State.lateUseReturned
    split <;> exact ⟨rfl, rfl, rfl, rfl, rfl, rfl⟩
  · exact tableKept_countRing s _

theorem tableKept_goodCell (s : State) : TableKept s s.goodCell := by
  unfold State.goodCell
  split
  · exact ⟨rfl, rfl, rfl, rfl, rfl, rfl⟩
  · exact TableKept.trans (t := { s with grp := { s.grp with ringUp := true, lastGood := s.timebase } })
      ⟨rfl, rfl, rfl, rfl, rfl, rfl⟩ (tableKept_report _ _)

theorem tableKept_handleCell (s : State) (cell : List Byte) : TableKept s (s.handleCell cell) := by
  unfold State.handleCell
  split
  · exact .refl s
  split
  · exact tableKept_consume s cell
  split
  · exact tableKept_returned s cell
  split
  · exact tableKept_countRing s _
  · unfold State.forward
    split
    · exact ⟨rfl, rfl, rfl, rfl, rfl, rfl⟩
    · exact tableKept_countRing s _

theorem tableKept_ringFallen (s : State) : TableKept s s.ringFallen := by
  unfold State.ringFallen
  dsimp only
  refine TableKept.report ?_ _
  exact ⟨rfl, rfl, rfl, rfl, rfl, rfl⟩

theorem tableKept_sendNext (s : State) : TableKept s { s with grp := s.grp.sendNext } := by
  unfold Grp.sendNext
  (repeat' split) <;> exact ⟨rfl, rfl, rfl, rfl, rfl, rfl⟩

theorem tableKept_unreachableAll (s : State) : TableKept s (laneNos.foldl State.unreachableIfRemote s) :=
  unreachableAll_keeps (P := TableKept s) (.refl s) fun _ l e kept _ =>
    kept.trans (.of_core (laneStep_unreachable _ l e).core)

theorem tableKept_takeVerdict (s : State) (v : HandedVerdict) : TableKept s (s.takeVerdict v) := by
  unfold State.takeVerdict
  split
  · exact ⟨rfl, rfl, rfl, rfl, rfl, rfl⟩
  split
  · exact ⟨rfl, rfl, rfl, rfl, rfl, rfl⟩
  · unfold State.lateVerdict
    dsimp only
    refine TableKept.trans (t := { s with clt := { s.clt with lateVerdicts := bump s.clt.lateVerdicts } })
      ⟨rfl, rfl, rfl, rfl, rfl, rfl⟩ ?_
    split
    · split
      · exact tableKept_offerIntake _ _
      · exact tableKept_offer _ _
    · exact .refl _

theorem tableKept_performAbandon_none {k : Key} {tag : Tag} (unmatched : s.matchedHold tag k = none) :
    TableKept s (s.performAbandon tag k) := by
  rw [State.performAbandon, unmatched]
  exact ⟨rfl, rfl, rfl, rfl, rfl, rfl⟩

theorem tableKept_sent (a : Answer) (c : MgmtCell) : TableKept a.state (a.sent c) := by
  unfold Answer.sent
  generalize a.reports = rs
  have reported (x : State) : TableKept x (rs.foldl State.report x) := by
    induction rs generalizing x with
    | nil => exact .refl x
    | cons r rs ih => exact (tableKept_report x r).trans (ih _)
  exact (tableKept_offer _ _).trans (reported _)

theorem coreKept_configure (s : State) (l : LaneNo) (c : LaneConfig) : CoreKept s (s.configure l c) := by
  by_cases loses : (s.lane l).config.fitted = true ∧ c.fitted = false
  · rw [State.configure_unfitting loses.1 loses.2]
    exact ⟨rfl, rfl, rfl, rfl, rfl, rfl, rfl⟩
  · rw [State.configure_keeping (by simpa [imp_iff_not_or] using loses)]
    exact ⟨rfl, rfl, rfl, rfl, rfl, rfl, rfl⟩

theorem coreKept_withoutDelivery (s : State) (l : LaneNo) : CoreKept s (s.withoutDelivery l) :=
  ⟨rfl, rfl, rfl, rfl, rfl, rfl, rfl⟩

/-- The commands for a lane leave the table, the holds and the management unit. -/
theorem coreKept_onLane {d : Command} {n : Nat} (named : d.laneNamed = some n) (s : State) :
    CoreKept s (d.run s).state := by
  by_cases above : 15 < n
  · rw [Command.run_of_above named above]
    exact .refl s
  obtain ⟨l, rfl⟩ : ∃ l : LaneNo, n = l.val := ⟨⟨n, by omega⟩, rfl⟩
  cases d <;> simp only [Command.laneNamed, Option.some.injEq, reduceCtorEq] at named <;> subst named
  case setLane fitted direction zone classes priority pw ew sl policy =>
    have drawn : CoreKept s (s.fittedOf fitted).2 := by
      unfold State.fittedOf
      (repeat' split) <;> exact ⟨rfl, rfl, rfl, rfl, rfl, rfl, rfl⟩
    simp only [Command.run, State.setLane, State.onLane_val]
    split
    · exact .refl s
    next c config =>
      split
      · exact .refl s
      · exact drawn.trans (coreKept_configure _ l c)
  case laneOpen =>
    simp only [Command.run, State.laneOpen, State.onLane_val]
    (repeat' split) <;> exact ⟨rfl, rfl, rfl, rfl, rfl, rfl, rfl⟩
  case laneClose =>
    rw [Command.run, State.laneClose_val]
    split <;> exact ⟨rfl, rfl, rfl, rfl, rfl, rfl, rfl⟩
  case laneReset =>
    rw [Command.run, State.laneReset_val]
    change CoreKept s (s.resetLane l)
    rw [State.resetLane_eq]
    exact ((laneStep_endWork s l).core.trans (laneStep_atLane _ l _ _ _).core).trans (coreKept_withoutDelivery _ l)
  case laneRelease =>
    rw [Command.run]
    by_cases idle : (s.lane l).state = .idle
    · cases direction : (s.lane l).config.direction with
      | exit =>
        rw [State.laneRelease_exit idle direction]
        exact (laneStep_beginPassage s l _ _).core
      | entry =>
        rw [State.laneRelease_entry idle direction]
        have served : CoreKept s (s.serveZoneAll l) := (laneStep_serveZoneAll s l).core
        split
        · have reserved : CoreKept s ((s.serveZoneAll l).reserve l) := served.trans ⟨rfl, rfl, rfl, rfl, rfl, rfl, rfl⟩
          exact reserved.trans (laneStep_beginPassage _ l _ _).core
        · exact served
    · rw [State.laneRelease_notIdle idle]
      exact .refl s
  case readLane clear =>
    rw [Command.run, State.readLane_val]
    cases clear <;> exact ⟨rfl, rfl, rfl, rfl, rfl, rfl, rfl⟩

/-! ### The table's own commands -/

theorem State.TableSound.onKey (sound : s.TableSound) (k : Key) {run : Nat → Record → Answer}
    (each : ∀ p r, s.adt.phase = .ready → s.recordAt p = some r → (run p r).state.TableSound) :
    (s.onKey k run).state.TableSound := by
  unfold State.onKey
  split
  · exact sound
  next notSweeping =>
    have ready : s.adt.phase = .ready := by
      cases phase : s.adt.phase with
      | ready => rfl
      | sweeping => exact absurd phase notSweeping
    (repeat' split)
    case h_2 record => exact each _ _ ready record
    all_goals exact sound

theorem State.TableSound.revoke (sound : s.TableSound) {p : Nat} {r : Record} (record : s.recordAt p = some r) (b : Bool) :
    (s.writeRecord p { r with revoked := b }).TableSound :=
  sound.rewrite record rfl rfl id

/-- A record of a stream is upserted while any remains (R33). -/
theorem Adt.adt_loadOne (a : Adt) (position size : Nat) (st : Stream) (im : Image) :
    (a.loadOne position size st im).adt = if 0 < st.remaining then (a.upsert position size im).adt else a := by
  unfold Adt.loadOne
  dsimp only
  (repeat' split) <;> rfl

theorem State.TableSound.loadRecord (sound : s.TableSound) (ready : s.adt.phase = .ready) (im : Image) :
    (s.loadRecord im).1.TableSound := by
  unfold State.loadRecord
  split
  next st _ =>
    dsimp only
    rw [Adt.adt_loadOne]
    split
    · exact (sound.upsert ready im).of_kept ⟨rfl, rfl, rfl, rfl, rfl, rfl⟩
    · exact sound.of_kept ⟨rfl, rfl, rfl, rfl, rfl, rfl⟩
  · exact sound

theorem Adt.phase_upsert (a : Adt) (position size : Nat) (im : Image) :
    (a.upsert position size im).adt.phase = a.phase := by
  unfold Adt.upsert
  (repeat' split) <;> rfl

theorem State.phase_loadRecord (s : State) (im : Image) : (s.loadRecord im).1.adt.phase = s.adt.phase := by
  unfold State.loadRecord
  split
  · dsimp only
    rw [Adt.adt_loadOne]
    split
    · exact Adt.phase_upsert _ _ _ _
    · rfl
  · rfl

theorem tableKept_loadFinished (s : State) (first : Status) (second : Option Status) :
    TableKept s (s.loadFinished first second).state := by
  unfold State.loadFinished
  (repeat' split) <;> exact ⟨rfl, rfl, rfl, rfl, rfl, rfl⟩

theorem State.ready_of_loadRefusal {count : Nat} (taken : s.loadRefusal count = none) : s.adt.phase = .ready := by
  unfold State.loadRefusal at taken
  split at taken
  · cases taken
  next notSweeping =>
    cases phase : s.adt.phase with
    | ready => rfl
    | sweeping => exact absurd phase notSweeping

theorem State.TableSound.loadRecords (sound : s.TableSound) (count : Nat) (first second : Image) :
    (s.loadRecords count first second).state.TableSound := by
  unfold State.loadRecords
  split
  · exact sound
  next taken =>
    have ready := State.ready_of_loadRefusal taken
    have firstTaken : (match s.mgu.firstLoaded with
        | some st1 => (({ s with mgu := { s.mgu with firstLoaded := none } } : State), st1)
        | none => s.loadRecord first).1.TableSound ∧
        (match s.mgu.firstLoaded with
        | some st1 => (({ s with mgu := { s.mgu with firstLoaded := none } } : State), st1)
        | none => s.loadRecord first).1.adt.phase = .ready := by
      split
      · exact ⟨sound.of_kept ⟨rfl, rfl, rfl, rfl, rfl, rfl⟩, ready⟩
      · exact ⟨sound.loadRecord ready first, (s.phase_loadRecord first).trans ready⟩
    dsimp only
    split
    · exact (firstTaken.1.loadRecord firstTaken.2 second).of_kept (tableKept_loadFinished _ _ _)
    · exact firstTaken.1.of_kept (tableKept_loadFinished _ _ _)

theorem State.TableSound.run (sound : s.TableSound) (d : Command) : (d.run s).state.TableSound := by
  cases named : d.laneNamed with
  | some n => exact sound.of_kept (.of_core (coreKept_onLane named s))
  | none =>
    cases d
    case setLane | laneOpen | laneClose | laneReset | laneRelease | readLane => cases named
    case putRecord im =>
      simp only [Command.run, State.putRecord]
      split
      · exact sound
      next notSweeping =>
        refine sound.upsert ?_ im
        cases phase : s.adt.phase with
        | ready => rfl
        | sweeping => exact absurd phase notSweeping
    case loadOpen count =>
      simp only [Command.run, State.loadOpen]
      (repeat' split) <;> exact sound.of_kept ⟨rfl, rfl, rfl, rfl, rfl, rfl⟩
    case loadRecords count first second => exact sound.loadRecords count first second
    case loadAbort =>
      simp only [Command.run, State.loadAbort]
      (repeat' split) <;> exact sound.of_kept ⟨rfl, rfl, rfl, rfl, rfl, rfl⟩
    case voidKey k => exact sound.onKey k fun _ _ _ record => sound.revoke record true
    case restoreKey k => exact sound.onKey k fun _ _ _ record => sound.revoke record false
    case dropKey k =>
      refine sound.onKey k fun p r ready record => ?_
      split
      · exact sound
      next unheld => exact sound.erase ready record (by simpa using unheld)
    case queryKey k => exact sound.onKey k fun _ _ _ _ => sound
    case setZone | readZone =>
      refine sound.of_kept ?_
      simp only [Command.run, State.setZone, State.readZone, State.onZone]
      (repeat' split) <;> exact .of_blocks rfl rfl rfl
    case setClock second => exact sound.of_kept (.of_blocks rfl rfl rfl)
    case setGate => exact sound.of_kept (.of_blocks rfl rfl rfl)
    case readGate clear => cases clear <;> exact sound.of_kept ⟨rfl, rfl, rfl, rfl, rfl, rfl⟩
    case emergencyClear =>
      refine sound.of_kept ?_
      simp only [Command.run, State.emergencyClear]
      (repeat' split) <;> exact .of_blocks rfl rfl rfl
    case gateClear | unknown => exact sound

/-! ### Every step -/

/-- A reset part is SWEEPING, with no hold. The slots keep what they held (log entry 7). -/
theorem tableSound_resetBlocks (form : s.adt.table.wf) (pins : Pins) : (s.resetBlocks pins).TableSound where
  form := form
  records := nofun
  keys := nofun
  fill := nofun
  held := nofun
  holds i h live := by
    have free : (s.resetBlocks pins).holdAt i = none := Vector.getElem_replicate ..
    rw [free] at live
    cases live
  tags i j h g live := by
    have free : (s.resetBlocks pins).holdAt i = none := Vector.getElem_replicate ..
    rw [free] at live
    cases live
  sweeping _ := ⟨rfl, fun _ => Vector.getElem_replicate ..⟩

theorem tableKept_reportReset (s : State) (pins : Pins) : TableKept s (s.reportReset pins) := by
  unfold State.reportReset
  split
  · exact tableKept_report s _
  · exact .refl s

/-- The sweep's end: an empty table, and no hold (R20). -/
theorem State.TableSound.swept (sound : s.TableSound) (sweeping : s.adt.phase = .sweeping) :
    State.TableSound { s with adt := { s.adt with phase := .ready, table := [] } } := by
  obtain ⟨fill, free⟩ := sound.sweeping sweeping
  have noHold {i : HoldNo} {h : Hold} (live : s.holdAt i = some h) : False := by
    rw [free i] at live
    cases live
  exact
    { form := ⟨List.Pairwise.nil, nofun⟩
      records := fun _ _ _ record => by cases record
      keys := fun _ _ _ _ _ record => by cases record
      fill := fun _ => fill
      held := fun _ _ _ _ record => by cases record
      holds := fun i h live => absurd live fun live => noHold live
      tags := fun i j h g live => absurd live fun live => noHold live
      sweeping := fun phase => by cases phase }

theorem tableKept_intakeLeft (s : State) (rest : List Intake) : TableKept s (s.intakeLeft rest) :=
  ⟨rfl, rfl, rfl, rfl, rfl, rfl⟩

/-- An entry taken: the overdue holds lapse, then it is performed. -/
theorem State.TableSound.takeEntry (sound : s.TableSound) (rest : List Intake) {perform : State → State}
    (performed : ∀ x : State, x.TableSound → (perform x).TableSound) : (s.takeEntry rest perform).TableSound :=
  performed _ (sound.lapseOverdue.of_kept (tableKept_intakeLeft s.lapseOverdue rest))

theorem State.TableSound.performPassed (sound : s.TableSound) (tag : Tag) (k : Key) (kind : Kind) (time : Nat) :
    (s.performPassed tag k kind time).TableSound := by
  unfold State.performPassed
  split
  next i h matched =>
    have live := State.matchedHold_some matched
    have ended := sound.endHold live (useOutcome_sound (sound.holds i h live).2 h.kind time)
    unfold State.commit
    exact ended.of_kept (tableKept_reportDuplicate _ _ _ _ _ _ _)
  · exact sound.applyUse k kind time _

theorem State.TableSound.performAbandon (sound : s.TableSound) (tag : Tag) (k : Key) :
    (s.performAbandon tag k).TableSound := by
  cases matched : s.matchedHold tag k with
  | none => exact sound.of_kept (tableKept_performAbandon_none matched)
  | some found =>
    obtain ⟨i, h⟩ := found
    have live := State.matchedHold_some matched
    rw [State.performAbandon, matched]
    exact sound.endHold live (sound.holds i h live).2

theorem ManagementEffect.tableSound {pins : Pins} {c : MgmtCell} {rest : List MgmtCell}
    (effect : ManagementEffect s pins c rest t) (sound : s.TableSound) : t.TableSound := by
  have left : (s.commandsLeft rest).TableSound := sound.of_kept ⟨rfl, rfl, rfl, rfl, rfl, rfl⟩
  cases effect with
  | gateClear =>
    exact (tableSound_resetBlocks sound.form pins).of_kept ((tableKept_offer _ _).trans (tableKept_reportReset _ pins))
  | badStrap => exact left.of_kept (tableKept_offer _ _)
  | carriedOut => exact (left.run c.command).of_kept (tableKept_sent _ c)
  | firstAlone first second command fresh taken =>
    exact (sound.loadRecord (State.ready_of_loadRefusal taken) first).of_kept ⟨rfl, rfl, rfl, rfl, rfl, rfl⟩

theorem Effect.tableSound {i : Instr} (effect : Effect s i t) (sound : s.TableSound) : t.TableSound := by
  cases row : rowLane i with
  | some l => exact sound.of_kept (.of_core (effect.laneStep row).core)
  | none =>
    cases effect
    case notDue => exact sound
    case management effect => exact effect.tableSound sound
    case bus effect => exact sound.of_kept effect.tableKept
    case zoneServed l named => cases row.symm.trans named
    case sweepComplete sweeping => exact sound.swept sweeping
    case badCell => exact sound.of_kept (tableKept_countRing s _)
    case goodCell cell => exact sound.of_kept ((tableKept_goodCell s).trans (tableKept_handleCell _ cell))
    case ringDown => exact sound.of_kept ((tableKept_ringFallen s).trans (tableKept_unreachableAll _))
    case outputCellEnd => exact sound.of_kept (tableKept_sendNext s)
    case claim tag k kind time zone classes rest head =>
      refine sound.takeEntry rest fun x sound => ?_
      obtain ⟨lapsed, fresh⟩ := sound.lapseReused tag
      exact lapsed.decide fresh k _
    case passed => exact sound.takeEntry _ fun x sound => sound.performPassed _ _ _ _
    case abandon => exact sound.takeEntry _ fun x sound => sound.performAbandon _ _
    case lateUse => exact sound.takeEntry _ fun x sound => sound.applyUse _ _ _ _
    case holdDeadline i h live =>
      have reached : (s.reach h.deadline).TableSound := sound.of_kept (.of_blocks rfl rfl rfl)
      exact reached.lapse live _
    case verdict v rest inbox =>
      exact sound.of_kept ((tableKept_takeVerdict _ v).after ⟨rfl, rfl, rfl, rfl, rfl, rfl⟩)
    case drainLateUse =>
      exact sound.of_kept ((tableKept_sendNotice _ _ _).after ⟨rfl, rfl, rfl, rfl, rfl, rfl⟩)
    case inputActive | inputInactive => exact sound.of_kept (.of_blocks rfl rfl rfl)
    case emergencyEdge => exact sound.of_kept ((tableKept_report _ _).after (.of_blocks rfl rfl rfl))
    case clockSecond => exact sound.of_kept (.of_blocks rfl rfl rfl)
    all_goals cases row

/-- Settles O10: every row keeps the record of each hold and the hold of each record. -/
theorem stepKeepsTableAndHolds : Obligations.StepKeepsTableAndHolds := by
  intro s t sound stepped
  unfold step at stepped
  split at stepped
  · cases stepped
    exact sound.of_kept (.of_blocks rfl rfl rfl)
  next rest _ =>
    have queued : State.TableSound { s with pending := rest } := sound.of_kept (.of_blocks rfl rfl rfl)
    obtain ⟨pins, -, rfl⟩ | ⟨-, rfl⟩ | effect := exec_cases stepped
    · exact (tableSound_resetBlocks queued.form pins).of_kept
        ((tableKept_reportReset _ pins).after ⟨rfl, rfl, rfl, rfl, rfl, rfl⟩)
    · exact queued.of_kept ⟨rfl, rfl, rfl, rfl, rfl, rfl⟩
    · exact effect.tableSound queued

end

end Sys2Proof.Machine
end

section
/-! SUPPORT. The bounds of queues, heads and counters through the steps of a lane (`Tame`). -/

namespace Sys2Proof.Machine

/-- A lane bus item set within its range (R111). -/
abbrev Head.Ranged (h : Head) : Prop := h.missed ≤ 2 ∧ h.offered ≤ 2 ∧ h.room ≤ 2

/-- A step that takes no queue, setting, counter or bus item out of its range. -/
structure Tame (s t : State) : Prop where
  queues : s.QueuesBounded → t.QueuesBounded
  heads : (∀ l, (s.head l).Ranged) → ∀ l, (t.head l).Ranged
  counters : (∀ l, (s.lane l).counters.Bounded) → ∀ l, (t.lane l).counters.Bounded

section
variable {s t : State}

theorem Tame.refl (s : State) : Tame s s := ⟨id, id, id⟩

theorem Tame.trans {u : State} (first : Tame s t) (second : Tame t u) : Tame s u :=
  ⟨second.queues ∘ first.queues, second.heads ∘ first.heads, second.counters ∘ first.counters⟩

theorem Tame.after {u : State} (second : Tame t u) (first : Tame s t) : Tame s u := first.trans second

/-- A step away from the lanes. -/
theorem Tame.of_kept (kept : LanesKept s t) (queues : s.QueuesBounded → t.QueuesBounded) : Tame s t where
  queues := queues
  heads ranged l := by
    rw [kept.head]
    exact ranged l
  counters bounded l := by
    rw [kept.lane]
    exact bounded l

/-- A step that leaves lanes and heads. -/
theorem Tame.of_lanes (lanes : t.lanes = s.lanes) (lbp : t.lbp = s.lbp) (queues : s.QueuesBounded → t.QueuesBounded) :
    Tame s t where
  queues := queues
  heads ranged l := by
    rw [State.head_congr lbp]
    exact ranged l
  counters bounded l := by
    rw [State.lane_congr lanes]
    exact bounded l

/-- A change of one lane's records that keeps its counters and bus items in range. -/
theorem tame_atLane (s : State) (l : LaneNo) {f : Lane → Lane} {g : Head → Head} (h : Lines → Lines)
    (counters : (s.lane l).counters.Bounded → (f (s.lane l)).counters.Bounded)
    (head : (s.head l).Ranged → (g (s.head l)).Ranged) : Tame s (s.atLane l f g h) where
  queues bounded := bounded.of_eq rfl rfl rfl rfl rfl
  heads ranged m := by
    rw [State.head_atLane]
    split
    next same => exact head (same ▸ ranged m)
    next => exact ranged m
  counters bounded m := by
    rw [State.lane_atLane]
    split
    next same => exact counters (same ▸ bounded m)
    next => exact bounded m

theorem tame_modLane (s : State) (l : LaneNo) {f : Lane → Lane}
    (counters : (s.lane l).counters.Bounded → (f (s.lane l)).counters.Bounded) : Tame s (s.modLane l f) := by
  rw [State.modLane_eq_atLane]
  exact tame_atLane s l id counters id

theorem tame_modHead (s : State) (l : LaneNo) {g : Head → Head} (head : (s.head l).Ranged → (g (s.head l)).Ranged) :
    Tame s (s.modHead l g) := by
  rw [State.modHead_eq_atLane]
  exact tame_atLane s l id id head

theorem tame_modLine (s : State) (l : LaneNo) (h : Lines → Lines) : Tame s (s.modLine l h) := by
  rw [State.modLine_eq_atLane]
  exact tame_atLane s l h id id

theorem tame_count (s : State) (l : LaneNo) {f : LaneCounters → LaneCounters}
    (bounded : ∀ c : LaneCounters, c.Bounded → (f c).Bounded) : Tame s (s.count l f) :=
  tame_modLane s l (bounded _)

theorem tame_hand (s : State) (l : LaneNo) (e : LaneEvent) : Tame s (s.hand l e) := tame_modLane s l id

theorem tame_report (s : State) (r : Report) : Tame s (s.report r) := .of_kept (lanesKept_report s r) fun h => h.report r

theorem tame_reach (s : State) (m : Nat) : Tame s (s.reach m) :=
  .of_kept (lanesKept_reach s m) fun h => h.of_eq rfl rfl rfl rfl rfl

theorem tame_freeUsed (s : State) : Tame s s.freeUsed :=
  .of_lanes rfl rfl fun h => h.of_eq rfl rfl rfl rfl rfl

theorem tame_second (s : State) : Tame s s.second.2 := by
  unfold State.second
  split
  · exact .refl s
  · exact tame_freeUsed s

/-- The log with a record marked DONE keeps its length, its kinds and its keys (R137). -/
theorem State.QueuesBounded.markDone (bounded : s.QueuesBounded) (l time : Nat) :
    (s.setLog (markDone l time s.clt.log)).QueuesBounded :=
  bounded.setLog _ (by rw [markDone_length]; exact bounded.clt.log)
    (entries_of_names (markDone_names l time s.clt.log) bounded.clt.entries)

theorem State.QueuesBounded.withRequests (bounded : s.QueuesBounded) (rs : List ZoneRequest) :
    (s.withRequests rs).QueuesBounded :=
  ⟨bounded.hdu, bounded.clt, bounded.grp, bounded.mgu, bounded.zcu⟩

/-! ### The steps of a lane -/

section
variable (s : State) (l : LaneNo)

theorem tame_dispose (m : Message) (a : Nat) (k : Option Key) : Tame s (s.dispose l m a k) := by
  rw [State.dispose_eq_atLane]
  exact tame_atLane s l _ id id

/-- A presentation refused in IDLE (R75, R76, R78). -/
theorem tame_refused (m : Message) (a : Nat) (k : Option Key) (i : Indication) :
    Tame s (((s.dispose l m a k).indicate l i).countRefused l) := by
  rw [State.refused_eq_atLane]
  exact tame_atLane s l _ LaneCounters.Bounded.refused id

theorem tame_forced : Tame s (s.forced l) :=
  (tame_count s l fun _ bounded => bounded.forced).trans (tame_report _ _)

theorem tame_serveZone : Tame s (s.serveZone l) := .of_lanes (by simp) (by simp) fun h => h.serveZone l

theorem tame_serveZoneAll : Tame s (s.serveZoneAll l) := .of_lanes (by simp) (by simp) fun h => h.serveZoneAll l

theorem tame_reserve : Tame s (s.reserve l) := .of_lanes rfl rfl fun h => h.reserve l

theorem tame_setPlace (e : Option TrackerEntry) : Tame s (s.setPlace l e) := .of_lanes rfl rfl fun h => h.setPlace l e

theorem tame_unreachable (e : TrackerEntry) : Tame s (s.unreachable l e) where
  queues bounded := bounded.unreachable l e
  heads ranged m := by
    rw [State.head_congr (s := s) (by simp)]
    exact ranged m
  counters bounded := by
    obtain ⟨r, kept⟩ := unreachable_handed s l e
    intro m
    rw [kept.lane]
    exact ((tame_setPlace s l none).trans (tame_hand _ l (.result r))).counters bounded m

theorem tame_endWork : Tame s (s.endWork l) where
  queues bounded := bounded.endWork l
  heads ranged m := by
    rw [State.head_congr (s := s) (by simp)]
    exact ranged m
  counters bounded m := by
    rw [State.lane_endWork]
    split
    · exact bounded l
    · exact bounded m

/-- The work in flight ended, with a change at the lane that keeps its counters and bus items. -/
theorem tame_endWork_atLane {f : Lane → Lane} {g : Head → Head} (h : Lines → Lines)
    (counters : (f ((s.endWork l).lane l)).counters = ((s.endWork l).lane l).counters)
    (head : ((s.endWork l).head l).Ranged → (g ((s.endWork l).head l)).Ranged) : Tame s ((s.endWork l).atLane l f g h) :=
  (tame_endWork s l).trans (tame_atLane _ l h (fun bounded => counters ▸ bounded) head)

theorem tame_beginPassage (p : Passage) (i : Indication) : Tame s (s.beginPassage l p i) := by
  rw [passageBegins s l p i]
  exact tame_atLane s l _ id id

theorem tame_trackClaim (e : TrackerEntry) (claim : Intake) : Tame s (s.trackClaim l e claim) := by
  unfold State.trackClaim
  split
  · exact (tame_setPlace s l _).trans (.of_kept (lanesKept_offerIntake _ _) fun h => h.offerIntake _)
  · split
    · exact (tame_setPlace s l _).trans (.of_kept (lanesKept_offer _ _) fun h => h.offer _)
    · exact tame_unreachable s l _

theorem tame_issueClaim (k : Key) (t : Nat) : Tame s (s.issueClaim l k t) := by
  rw [State.issueClaim_eq]
  exact (tame_trackClaim _ l _ _).after (tame_modLane s l id)

theorem tame_reserveAndClaim (k : Key) (t : Nat) : Tame s (s.reserveAndClaim l k t) := by
  cases direction : (s.lane l).config.direction with
  | exit =>
    rw [State.reserveAndClaim_exit direction]
    exact tame_issueClaim s l k t
  | entry =>
    rw [State.reserveAndClaim_entry direction]
    refine (tame_serveZoneAll s l).trans ?_
    split
    · exact (tame_reserve _ l).trans (tame_issueClaim _ l k t)
    · exact tame_refused _ l _ _ _ _

theorem tame_takePresentation (p : Presentation) : Tame s (s.takePresentation l p) := by
  cases state : (s.lane l).state
  case idle =>
    rw [State.takePresentation_idle state]
    refine (tame_second s).trans ?_
    unfold State.processPresentation
    dsimp only
    split
    · exact tame_refused _ l _ _ _ _
    · split
      · exact tame_refused _ l _ _ _ _
      · unfold State.echoCheck
        split
        · exact .refl _
        · exact (tame_reserveAndClaim _ l _ _).after (tame_modLane _ l id)
  case closed =>
    rw [State.takePresentation_closed state]
    exact tame_dispose s l _ _ _
  case released =>
    rw [State.takePresentation_released state]
    exact tame_dispose s l _ _ _
  case validating => rw [State.takePresentation_discarded (.inl state)]; exact .refl s
  case awaitPass => rw [State.takePresentation_discarded (.inr (.inl state))]; exact .refl s
  case fault => rw [State.takePresentation_discarded (.inr (.inr state))]; exact .refl s

theorem tame_refuseResult (m : Message) (a : Nat) (i : Indication) (direction : (s.lane l).config.direction = .entry) :
    Tame s (s.refuseResult l m a i) := by
  rw [State.refuseResult_eq s l m a i direction]
  exact (tame_atLane s l _ LaneCounters.Bounded.refused id).trans (.of_lanes rfl rfl fun h => h.withRequests _)

theorem tame_grantResult (m : Message) (a : Nat) (p : Passage) (i : Indication) : Tame s (s.grantResult l m a p i) :=
  (tame_dispose s l _ _ _).trans (tame_beginPassage _ l p i)

theorem tame_takeResult (r : Result) : Tame s (s.takeResult l r) := by
  by_cases state : (s.lane l).state = .validating
  · cases direction : (s.lane l).config.direction with
    | entry =>
      rw [State.takeResult_entry state direction]
      obtain ⟨m, a, p, i, granted⟩ | ⟨m, a, i, refused | drawn⟩ := s.entryResult_cases l r
      · rw [granted]
        exact tame_grantResult s l m a p i
      · rw [refused]
        exact tame_refuseResult s l m a i direction
      · rw [drawn]
        exact (tame_freeUsed s).trans (tame_refuseResult _ l m a i direction)
    | exit =>
      rw [State.takeResult_exit state direction]
      obtain ⟨m, a, p, i, granted | drawn⟩ := s.exitResult_cases l r
      · rw [granted]
        exact tame_grantResult s l m a p i
      · rw [drawn]
        exact ((tame_freeUsed s).trans (tame_freeUsed _)).trans (tame_grantResult _ l m a p i)
  · rw [State.takeResult_ignored state]
    exact .refl s

theorem tame_passageTold (p : Passage) (t : Nat) : Tame s (s.passageTold l p t) := by
  refine .of_kept (lanesKept_passageTold s l p t) fun bounded => ?_
  have sent : (s.sendPassed l p t).QueuesBounded := by
    unfold State.sendPassed
    split
    · exact bounded.sendNotice _ _
    · exact bounded
  unfold State.passageTold State.completeRecord
  split
  · exact sent.markDone _ _
  · exact sent

theorem tame_reportPassage (p : Passage) (t : Nat) : Tame s (s.reportPassage l p t) := by
  unfold State.reportPassage
  dsimp only
  split
  · split
    · exact tame_report s _
    · exact .refl s
  all_goals exact tame_report s _

theorem tame_completePassage (p : Passage) : Tame s (s.completePassage l p) := by
  unfold State.completePassage
  dsimp only
  rw [State.lockArm_settle_eq]
  refine (((((tame_second s).trans (tame_passageTold _ l p s.second.1)).trans ?_).trans
    (tame_reportPassage _ l p s.second.1)).trans (tame_modLane _ l id)).trans (tame_atLane _ l _ id id)
  exact (tame_count _ l fun _ bounded => bounded.passed p.origin).after (.of_lanes rfl rfl fun h => h.askZone l _)

theorem tame_takeRotation (latched : Bool) : Tame s (s.takeRotation l latched) := by
  unfold State.takeRotation
  split
  · split
    · split
      · exact tame_completePassage s l _
      · exact tame_forced s l
    · exact tame_forced s l
  · exact tame_count s l fun _ bounded => bounded.free
  all_goals exact tame_forced s l

theorem tame_cancel : Tame s ((s.modLine l fun x => { x with cancelSet := false }).takeCancel l) := by
  by_cases validating : (s.lane l).state = .validating
  · rw [State.takeCancel_validating validating]
    exact tame_endWork_atLane s l _ rfl id
  by_cases awaiting : (s.lane l).state = .awaitPass
  · rw [State.takeCancel_awaitPass awaiting]
    exact tame_endWork_atLane s l _ rfl id
  · rw [State.takeCancel_ignored (by exact validating) (by exact awaiting)]
    exact tame_modLine s l _

theorem tame_eventGone (before after : List LaneEvent) : Tame s (s.eventGone l before after) := tame_modLane s l id

end

/-- Every row of one lane. -/
theorem Effect.tame_lane {i : Instr} {l : LaneNo} (effect : Effect s i t) (row : rowLane i = some l) : Tame s t := by
  cases effect
  case notDue => exact .refl s
  case management pins access c rest head named effect =>
    rw [← named, rowLane_row] at row
    exact absurd row nofun
  case bus noLane _ => exact absurd (noLane.symm.trans row) nofun
  case sweepComplete | badCell | goodCell | ringDown | outputCellEnd | claim | passed | abandon | lateUse | holdDeadline
    | verdict | drainLateUse | inputActive | emergencyEdge | inputInactive | clockSecond => cases row
  case zoneServed m named => exact tame_serveZone s m
  case claimTimeout m e d place => exact (tame_reach s d).trans (tame_unreachable _ m e)
  case presentation m p rest events => exact (tame_takePresentation _ m p).after (tame_atLane s m _ id id)
  case claimResult m r before after next => exact (tame_eventGone s m before after).trans (tame_takeResult _ m r)
  case rotation m latched before after next =>
    exact (tame_eventGone s m before after).trans (tame_takeRotation _ m latched)
  case passExpiry m before after next =>
    refine (tame_eventGone s m before after).trans ?_
    rw [State.takeExpiry_eq]
    split
    · exact tame_endWork_atLane _ m _ rfl id
    · exact .refl _
  case cancel m before after next => exact (tame_eventGone s m before after).trans (tame_cancel _ m)
  case linkLoss m before after next =>
    refine (tame_eventGone s m before after).trans ?_
    rw [State.takeLinkLoss_eq]
    split
    · exact .refl _
    · exact (tame_endWork_atLane _ m _ rfl id).trans (tame_report _ _)
  case linkRegained m before after next =>
    refine (tame_eventGone s m before after).trans ?_
    rw [State.takeLinkRegained_eq]
    split
    · exact (tame_report _ _).after (tame_atLane _ m _ id id)
    · exact .refl _
  case emergencyEvent m before after next =>
    refine (tame_eventGone s m before after).trans ?_
    rw [State.takeEmergency_eq]
    exact tame_endWork_atLane _ m _ rfl id
  case latchClearing m before after next =>
    refine (tame_eventGone s m before after).trans ?_
    rw [State.takeClearing_eq]
    split
    · exact tame_atLane _ m _ id id
    · exact .refl _
  case rotationEdge m inactive => exact (tame_modLine s m _).trans (tame_hand _ m _)
  case sensorLevelInactive m => exact tame_modLine s m _
  case passTimerExpired m d timer =>
    exact ((tame_reach s d).trans (tame_modLine _ m _)).trans (tame_hand _ m _)
  case cancelTaken m takes empty =>
    exact ((tame_modLine s m _).trans (tame_modLine _ m _)).trans (tame_hand _ m _)
  case buttonPressed m => exact tame_modLine s m _
  case buttonReleased m => exact tame_modLine s m _
  case indicationTimeout m timed => exact (tame_reach s _).trans (tame_modLine _ m _)

end

end Sys2Proof.Machine
end

section
/-! SUPPORT. Every step keeps every queue, counter, setting, bus item and load stream within its bounds (O9). -/

namespace Sys2Proof.Machine

/-- The open stream within its counts. -/
def State.StreamBounded (s : State) : Prop := ∀ st, s.adt.stream = some st → st.Bounded s.mgu.firstLoaded

/-- The load stream and the record of its cell taken alone stand. -/
structure StreamKept (s t : State) : Prop where
  stream : t.adt.stream = s.adt.stream
  firstLoaded : t.mgu.firstLoaded = s.mgu.firstLoaded

section
variable {s t : State}

theorem StreamKept.refl (s : State) : StreamKept s s := ⟨rfl, rfl⟩

theorem StreamKept.trans {u : State} (first : StreamKept s t) (second : StreamKept t u) : StreamKept s u :=
  ⟨second.stream.trans first.stream, second.firstLoaded.trans first.firstLoaded⟩

theorem StreamKept.after {u : State} (second : StreamKept t u) (first : StreamKept s t) : StreamKept s u :=
  first.trans second

theorem StreamKept.of_blocks (adt : t.adt = s.adt) (mgu : t.mgu = s.mgu) : StreamKept s t := ⟨by rw [adt], by rw [mgu]⟩

theorem State.StreamBounded.of_kept (bounded : s.StreamBounded) (kept : StreamKept s t) : t.StreamBounded := by
  intro st opened
  rw [kept.firstLoaded]
  exact bounded st (kept.stream ▸ opened)

/-! ### The stream through the home's steps -/

theorem State.stream_releaseRecord (s : State) (p : Nat) (u : UseFields) :
    (s.releaseRecord p u).adt.stream = s.adt.stream := by
  unfold State.releaseRecord
  split <;> rfl

theorem streamKept_endHold (s : State) (i : HoldNo) (h : Hold) (u : UseFields) : StreamKept s (s.endHold i h u) :=
  ⟨s.stream_releaseRecord _ _, by simp⟩

theorem streamKept_report (s : State) (r : Report) : StreamKept s (s.report r) := ⟨rfl, rfl⟩

theorem streamKept_reportDuplicate (s : State) (kind : Kind) (u : UseFields) (k : Key) (o : Occasion) (time : Nat)
    (origin : UseOrigin) : StreamKept s (s.reportDuplicate kind u k o time origin) := by
  unfold State.reportDuplicate
  split
  · exact streamKept_report s _
  · exact .refl s

theorem streamKept_lapse (s : State) (i : HoldNo) (h : Hold) (c : LapseCause) : StreamKept s (s.lapse i h c) := by
  unfold State.lapse
  split
  · exact (streamKept_endHold s i h _).trans (streamKept_report _ _)
  · exact streamKept_endHold s i h _

theorem streamKept_lapseIfOverdue (s : State) (i : HoldNo) : StreamKept s (s.lapseIfOverdue i) := by
  unfold State.lapseIfOverdue
  split
  · split
    · exact streamKept_lapse s i _ _
    · exact .refl s
  · exact .refl s

theorem streamKept_lapseOverdue (s : State) : StreamKept s s.lapseOverdue := by
  unfold State.lapseOverdue
  generalize holdNos = is
  induction is generalizing s with
  | nil => exact .refl s
  | cons i is ih => exact (streamKept_lapseIfOverdue s i).trans (ih _)

theorem streamKept_intakeLeft (s : State) (rest : List Intake) : StreamKept s (s.intakeLeft rest) := ⟨rfl, rfl⟩

theorem streamKept_lapseReused (s : State) (tag : Tag) : StreamKept s (s.lapseReused tag) := by
  unfold State.lapseReused
  split
  · split
    · exact streamKept_lapse s _ _ _
    · exact .refl s
  · exact .refl s

theorem streamKept_deliverVerdict (s : State) (tag : Tag) (k : Key) (v : Verdict) (a : Nat) :
    StreamKept s (s.deliverVerdict tag k v a) := .of_blocks (by simp) (by simp)

theorem streamKept_decide (s : State) (tag : Tag) (k : Key) (a : Asked) : StreamKept s (s.decide tag k a) := by
  unfold State.decide
  split
  · exact streamKept_deliverVerdict s _ _ _ _
  · dsimp only
    split
    · exact (streamKept_deliverVerdict _ _ _ _ _).after ⟨rfl, rfl⟩
    · exact streamKept_deliverVerdict s _ _ _ _

theorem streamKept_applyUse (s : State) (k : Key) (kind : Kind) (time : Nat) (o : UseOrigin) :
    StreamKept s (s.applyUse k kind time o) := by
  unfold State.applyUse
  split
  · exact streamKept_report s _
  · split
    · exact streamKept_report s _
    · split
      · exact streamKept_report s _
      · split
        · exact (streamKept_reportDuplicate _ _ _ _ _ _ _).after ⟨rfl, rfl⟩
        · split
          · exact (streamKept_reportDuplicate _ _ _ _ _ _ _).after ⟨rfl, rfl⟩
          · exact .refl s

theorem streamKept_takeEntry (s : State) (rest : List Intake) {perform : State → State}
    (performed : ∀ x, StreamKept x (perform x)) : StreamKept s (s.takeEntry rest perform) :=
  ((streamKept_lapseOverdue s).trans (streamKept_intakeLeft s.lapseOverdue rest)).trans (performed _)

theorem streamKept_performPassed (s : State) (tag : Tag) (k : Key) (kind : Kind) (time : Nat) :
    StreamKept s (s.performPassed tag k kind time) := by
  unfold State.performPassed
  split
  · unfold State.commit
    exact (streamKept_endHold s _ _ _).trans (streamKept_reportDuplicate _ _ _ _ _ _ _)
  · exact streamKept_applyUse s k kind time _

theorem streamKept_performAbandon (s : State) (tag : Tag) (k : Key) : StreamKept s (s.performAbandon tag k) := by
  unfold State.performAbandon
  split
  · exact streamKept_endHold s _ _ _
  · exact ⟨rfl, rfl⟩

/-! ### The stream through the other steps -/

theorem Mgu.firstLoaded_join (m : Mgu) (c : MgmtCell) : (m.join c).firstLoaded = m.firstLoaded := by
  unfold Mgu.join
  split <;> rfl

theorem streamKept_handleCell (s : State) (cell : List Byte) : StreamKept s (s.handleCell cell) := by
  unfold State.handleCell
  split
  · exact .refl s
  split
  · unfold State.consume
    split
    · exact .of_blocks (by simp) (by simp)
    · split
      · exact ⟨rfl, rfl⟩
      · split
        · exact ⟨rfl, s.mgu.firstLoaded_join _⟩
        · exact ⟨rfl, rfl⟩
  split
  · unfold State.returned
    split
    · unfold State.claimReturned
      (repeat' split)
      case isTrue => exact .of_blocks (by simp) (by simp)
      all_goals exact .refl s
    · unfold State.lateUseReturned
      split <;> exact ⟨rfl, rfl⟩
    · exact ⟨rfl, rfl⟩
  split
  · exact ⟨rfl, rfl⟩
  · unfold State.forward
    split <;> exact ⟨rfl, rfl⟩

theorem streamKept_goodCell (s : State) : StreamKept s s.goodCell := by
  unfold State.goodCell
  split
  · exact ⟨rfl, rfl⟩
  · exact (streamKept_report _ _).after ⟨rfl, rfl⟩

theorem streamKept_takeVerdict (s : State) (v : HandedVerdict) : StreamKept s (s.takeVerdict v) := by
  unfold State.takeVerdict
  split
  · exact ⟨rfl, rfl⟩
  split
  · exact ⟨rfl, rfl⟩
  · unfold State.lateVerdict
    dsimp only
    split
    · split
      · exact .of_blocks (by simp) (by simp)
      · exact ⟨rfl, rfl⟩
    · exact ⟨rfl, rfl⟩

theorem streamKept_sent (a : Answer) (c : MgmtCell) : StreamKept a.state (a.sent c) := .of_blocks (by simp) (by simp)

theorem streamKept_missed (s : State) (l : LaneNo) : StreamKept s (s.missed l) := by
  unfold State.missed
  (repeat' split) <;> exact ⟨rfl, rfl⟩

theorem BusEffect.streamKept (effect : BusEffect s t) : StreamKept s t := by
  cases effect with
  | pollBegun | fetchBegun | deliveryBegun => exact ⟨rfl, rfl⟩
  | polled l count room underWay =>
    unfold State.polled
    (repeat' split) <;> exact ⟨rfl, rfl⟩
  | missed l underWay => exact (streamKept_missed _ l).after ⟨rfl, rfl⟩
  | fetched l answer underWay =>
    unfold State.fetched
    (repeat' split) <;> exact ⟨rfl, rfl⟩
  | acknowledged l d gone underWay => split <;> exact ⟨rfl, rfl⟩
  | undelivered l d gone underWay =>
    have missed : StreamKept s (s.busFree.missed l) := (streamKept_missed _ l).after ⟨rfl, rfl⟩
    unfold State.undelivered
    dsimp only
    split
    · exact missed
    · exact missed.trans ⟨rfl, rfl⟩

/-! ### The load commands -/

/-- A stream while a cell of it is being handled: an excess record stands only once none remain (R33). -/
structure Stream.Loading (st : Stream) : Prop where
  counts : st.remaining + st.taken + st.rejected ≤ 65536
  rejection : ∀ x, st.firstRejection = some x → x.1 = .badArg ∨ x.1 = .wrongHome ∨ x.1 = .bucketFull
  excess : 0 < st.remaining → st.excess = 0

theorem Stream.Bounded.loading {st : Stream} {first : Option Status} (bounded : st.Bounded first) : st.Loading :=
  ⟨bounded.counts, bounded.rejection, fun _ => bounded.excess⟩

theorem Image.fault_status {im : Image} {position size : Nat} {st : Status} (fault : im.fault position size = some st) :
    st = .badArg ∨ st = .wrongHome := by
  unfold Image.fault at fault
  (repeat' split at fault) <;> cases fault <;> simp

/-- A record that is not taken is refused with one of three statuses (R22, R23). -/
theorem Adt.status_upsert (a : Adt) (position size : Nat) (im : Image) :
    (a.upsert position size im).status = .ok ∨ (a.upsert position size im).status = .badArg ∨
      (a.upsert position size im).status = .wrongHome ∨ (a.upsert position size im).status = .bucketFull := by
  unfold Adt.upsert
  split
  next st fault =>
    obtain rfl | rfl := Image.fault_status fault
    · exact .inr (.inl rfl)
    · exact .inr (.inr (.inl rfl))
  · (repeat' split) <;> simp

/-- One record of a stream: counted once, or an excess once none remain (R33). -/
theorem Adt.loadOne_loading (a : Adt) (position size : Nat) {st : Stream} (im : Image) (loading : st.Loading) :
    (a.loadOne position size st im).stream.Loading ∧
      (0 < st.remaining → (a.loadOne position size st im).stream.excess = 0) := by
  obtain ⟨counts, rejection, excess⟩ := loading
  unfold Adt.loadOne
  split
  next more =>
    dsimp only
    split
    · exact ⟨⟨by dsimp only; omega, rejection, fun _ => excess more⟩, fun _ => excess more⟩
    next refused =>
      refine ⟨⟨by dsimp only; omega, fun x first => ?_, fun _ => excess more⟩, fun _ => excess more⟩
      cases earlier : st.firstRejection with
      | some y =>
        rw [earlier] at first
        exact rejection x (earlier.trans first)
      | none =>
        rw [earlier] at first
        cases first
        exact (a.status_upsert position size im).resolve_left refused
  next none => exact ⟨⟨counts, rejection, fun more => absurd more none⟩, fun more => absurd more none⟩

/-- The open stream while a cell of it is being handled. -/
def State.Loading (s : State) : Prop := ∀ st, s.adt.stream = some st → st.Loading

theorem State.StreamBounded.loading (bounded : s.StreamBounded) : s.Loading := fun st opened =>
    (bounded st opened).loading

theorem State.Loading.loadRecord (loading : s.Loading) (im : Image) : (s.loadRecord im).1.Loading := by
  unfold State.loadRecord
  split
  next st opened =>
    intro x opened'
    cases opened'
    exact (Adt.loadOne_loading s.adt _ _ im (loading st opened)).1
  · exact loading

/-- Once a cell is handled, the stream stands with records remaining, or is closed (R34). -/
theorem State.Loading.loadFinished (loading : s.Loading) (first : Status) (second : Option Status) :
    (s.loadFinished first second).state.StreamBounded := by
  unfold State.loadFinished
  split
  next st opened =>
    split
    · intro x opened'
      cases opened'
    next more =>
      intro x opened'
      cases opened.symm.trans opened'
      obtain ⟨counts, rejection, excess⟩ := loading st opened
      exact ⟨counts, excess (Nat.pos_of_ne_zero more), rejection, fun _ => Nat.pos_of_ne_zero more⟩
  next closed =>
    intro x opened'
    cases closed.symm.trans opened'

theorem State.StreamBounded.loadRecords (bounded : s.StreamBounded) (count : Nat) (first second : Image) :
    (s.loadRecords count first second).state.StreamBounded := by
  unfold State.loadRecords
  split
  · exact bounded
  · have firstTaken : (match s.mgu.firstLoaded with
        | some st1 => (({ s with mgu := { s.mgu with firstLoaded := none } } : State), st1)
        | none => s.loadRecord first).1.Loading := by
      split
      · exact bounded.loading
      · exact bounded.loading.loadRecord first
    dsimp only
    split
    · exact (firstTaken.loadRecord second).loadFinished _ _
    · exact firstTaken.loadFinished _ _

/-- The first record of a cell taken alone (log entry 13). -/
theorem State.StreamBounded.loadFirstAlone (bounded : s.StreamBounded) (fresh : s.mgu.firstLoaded = none)
    (first : Image) : (s.loadFirstAlone first).StreamBounded := by
  intro x opened
  unfold State.loadFirstAlone State.loadRecord at opened ⊢
  cases stream : s.adt.stream with
  | none =>
    rw [stream] at opened
    cases stream.symm.trans opened
  | some st =>
    rw [stream] at opened
    cases opened
    have before := bounded st stream
    obtain ⟨⟨counts, rejection, -⟩, excess⟩ := Adt.loadOne_loading s.adt s.grp.position s.grp.size first before.loading
    exact ⟨counts, excess (before.remaining fresh), rejection, nofun⟩

theorem Adt.stream_upsert (a : Adt) (position size : Nat) (im : Image) :
    (a.upsert position size im).adt.stream = a.stream := by
  unfold Adt.upsert
  (repeat' split) <;> rfl

theorem streamKept_onKey (s : State) (k : Key) {run : Nat → Record → Answer}
    (each : ∀ p r, StreamKept s (run p r).state) : StreamKept s (s.onKey k run).state := by
  unfold State.onKey
  (repeat' split)
  case h_2 => exact each _ _
  all_goals exact .refl s

theorem State.StreamBounded.run (bounded : s.StreamBounded) {d : Command} (fits : d.fits) :
    (d.run s).state.StreamBounded := by
  cases named : d.laneNamed with
  | some n => exact bounded.of_kept (.of_blocks (coreKept_onLane named s).adt (coreKept_onLane named s).mgu)
  | none =>
    cases d
    case setLane | laneOpen | laneClose | laneReset | laneRelease | readLane => cases named
    case putRecord im =>
      refine bounded.of_kept ?_
      simp only [Command.run, State.putRecord]
      split
      · exact .refl s
      · exact ⟨s.adt.stream_upsert _ _ _, rfl⟩
    case loadOpen count =>
      simp only [Command.run, State.loadOpen]
      split
      · exact bounded
      · split
        · exact bounded
        · intro x opened
          cases opened
          have count_lt : count < 65536 := fits
          exact ⟨by dsimp only; omega, rfl, nofun, fun _ => Nat.succ_pos count⟩
    case loadRecords count first second => exact bounded.loadRecords count first second
    case loadAbort =>
      simp only [Command.run, State.loadAbort]
      split
      · exact bounded
      · split
        · intro x opened
          cases opened
        · exact bounded
    case voidKey k => exact bounded.of_kept (streamKept_onKey s k fun _ _ => ⟨rfl, rfl⟩)
    case restoreKey k => exact bounded.of_kept (streamKept_onKey s k fun _ _ => ⟨rfl, rfl⟩)
    case dropKey k =>
      refine bounded.of_kept (streamKept_onKey s k fun _ _ => ?_)
      split <;> exact ⟨rfl, rfl⟩
    case queryKey k => exact bounded.of_kept (streamKept_onKey s k fun _ _ => .refl s)
    case setZone | readZone =>
      refine bounded.of_kept ?_
      simp only [Command.run, State.setZone, State.readZone, State.onZone]
      (repeat' split) <;> exact ⟨rfl, rfl⟩
    case setClock | setGate => exact bounded.of_kept ⟨rfl, rfl⟩
    case readGate clear => cases clear <;> exact bounded.of_kept ⟨rfl, rfl⟩
    case emergencyClear =>
      refine bounded.of_kept ?_
      simp only [Command.run, State.emergencyClear]
      (repeat' split) <;> exact ⟨rfl, rfl⟩
    case gateClear | unknown => exact bounded

theorem streamBounded_resetBlocks (s : State) (pins : Pins) : (s.resetBlocks pins).StreamBounded := by
  intro x opened
  cases opened

theorem streamKept_reportReset (s : State) (pins : Pins) : StreamKept s (s.reportReset pins) := by
  unfold State.reportReset
  split
  · exact streamKept_report s _
  · exact .refl s

theorem ManagementEffect.streamBounded {pins : Pins} {c : MgmtCell} {rest : List MgmtCell}
    (effect : ManagementEffect s pins c rest t) (fits : c.command.fits) (bounded : s.StreamBounded) :
    t.StreamBounded := by
  have left : (s.commandsLeft rest).StreamBounded := bounded.of_kept ⟨rfl, rfl⟩
  cases effect with
  | gateClear =>
    exact (streamBounded_resetBlocks s pins).of_kept ((streamKept_reportReset _ pins).after ⟨rfl, rfl⟩)
  | badStrap => exact left.of_kept ⟨rfl, rfl⟩
  | carriedOut => exact (left.run fits).of_kept (streamKept_sent _ c)
  | firstAlone first second command fresh taken => exact bounded.loadFirstAlone fresh first

/-- Every row but those of the management cells leaves the load stream as it is. -/
theorem Effect.streamBounded {i : Instr} (effect : Effect s i t) (fits : ∀ c ∈ s.mgu.queue, c.command.fits)
    (bounded : s.StreamBounded) : t.StreamBounded := by
  cases row : rowLane i with
  | some l => exact bounded.of_kept (.of_blocks (effect.laneStep row).core.adt (effect.laneStep row).core.mgu)
  | none =>
    cases effect
    case notDue => exact bounded
    case management pins access c rest head named effect =>
      exact effect.streamBounded (fits c (head.queue_eq ▸ List.mem_cons_self)) bounded
    case bus effect => exact bounded.of_kept effect.streamKept
    case zoneServed l named => cases row.symm.trans named
    case goodCell cell => exact bounded.of_kept ((streamKept_goodCell s).trans (streamKept_handleCell _ cell))
    case ringDown =>
      refine bounded.of_kept (unreachableAll_keeps (P := StreamKept s) ⟨rfl, rfl⟩ fun _ _ _ kept _ => ?_)
      exact kept.trans (.of_blocks (by simp) (by simp))
    case claim =>
      exact bounded.of_kept (streamKept_takeEntry s _ fun x => (streamKept_lapseReused x _).trans
        (streamKept_decide _ _ _ _))
    case passed => exact bounded.of_kept (streamKept_takeEntry s _ fun x => streamKept_performPassed x _ _ _ _)
    case abandon => exact bounded.of_kept (streamKept_takeEntry s _ fun x => streamKept_performAbandon x _ _)
    case lateUse => exact bounded.of_kept (streamKept_takeEntry s _ fun x => streamKept_applyUse x _ _ _ _)
    case holdDeadline => exact bounded.of_kept ((streamKept_lapse _ _ _ _).after ⟨rfl, rfl⟩)
    case verdict => exact bounded.of_kept ((streamKept_takeVerdict _ _).after ⟨rfl, rfl⟩)
    case drainLateUse =>
      exact bounded.of_kept (.of_blocks (by simp) (by simp))
    case sweepComplete | badCell | outputCellEnd | inputActive | inputInactive | emergencyEdge | clockSecond =>
      exact bounded.of_kept ⟨rfl, rfl⟩
    all_goals cases row

end

end Sys2Proof.Machine
end

section
/-! SUPPORT. The queues, heads and counters through every row, and the bounds of every step (O9). -/

namespace Sys2Proof.Machine

section
variable {s t : State}

/-! ### The lane bus -/

theorem tame_missed (s : State) (l : LaneNo) : Tame s (s.missed l) := by
  unfold State.missed
  split
  · exact .refl s
  · split
    next few => exact tame_modHead s l fun _ => ⟨by dsimp only; omega, Nat.zero_le 2, Nat.zero_le 2⟩
    next => exact (tame_hand _ l _).after (tame_modHead s l fun _ => ⟨Nat.zero_le 2, Nat.zero_le 2, Nat.zero_le 2⟩)

/-- The port's own record of its transaction is no head's. -/
theorem tame_port (s : State) {b : Lbp} (heads : b.heads = s.lbp.heads) : Tame s { s with lbp := b } where
  queues bounded := bounded.of_eq rfl rfl rfl rfl rfl
  heads ranged l := by
    have kept : ({ s with lbp := b } : State).head l = s.head l := by
      rw [State.head, State.head, heads]
    rw [kept]
    exact ranged l
  counters := id

theorem tame_busFree (s : State) : Tame s s.busFree := tame_port s rfl

theorem BusEffect.tame (effect : BusEffect s t) : Tame s t := by
  cases effect with
  | pollBegun => exact tame_port s rfl
  | fetchBegun pr l free chosen =>
    refine (tame_modHead _ l fun ranged => ⟨ranged.1, (Nat.sub_le _ 1).trans ranged.2.1, ranged.2.2⟩).after ?_
    exact tame_port s (by cases pr <;> rfl)
  | deliveryBegun l =>
    refine (tame_modHead _ l fun ranged => ⟨ranged.1, ranged.2.1, (Nat.sub_le _ 1).trans ranged.2.2⟩).after ?_
    exact tame_port s rfl
  | polled l count room underWay =>
    refine (tame_busFree s).trans ?_
    unfold State.polled
    have items : Tame s.busFree (s.busFree.modHead l fun h =>
        { h with offered := min 2 count, room := min 2 room, missed := 0, linked := true }) :=
      tame_modHead _ l fun _ => ⟨Nat.zero_le 2, min_le_left 2 count, min_le_left 2 room⟩
    split
    · exact .refl _
    · dsimp only
      split
      · exact items
      · exact items.trans (tame_hand _ l _)
  | missed l underWay => exact (tame_busFree s).trans (tame_missed _ l)
  | fetched l answer underWay =>
    refine (tame_busFree s).trans ?_
    unfold State.fetched
    split
    · exact .refl _
    · split
      · exact (tame_hand _ l _).after (tame_modHead _ l fun ranged => ⟨Nat.zero_le 2, ranged.2⟩)
      · exact tame_modHead _ l fun ranged => ⟨Nat.zero_le 2, Nat.zero_le 2, ranged.2.2⟩
      · exact (tame_modHead _ l id).after (tame_modHead _ l fun ranged => ⟨Nat.zero_le 2, ranged.2⟩)
  | acknowledged l d gone underWay =>
    split
    · exact (tame_busFree s).trans (tame_modHead _ l fun ranged => ⟨Nat.zero_le 2, ranged.2⟩)
    · exact tame_busFree s
  | undelivered l d gone underWay =>
    have missed : Tame s (s.busFree.missed l) := (tame_busFree s).trans (tame_missed _ l)
    unfold State.undelivered
    dsimp only
    split
    · exact missed
    · exact missed.trans (tame_modHead _ l id)

/-! ### The ring -/

theorem State.QueuesBounded.withRingPort (bounded : s.QueuesBounded) {g : Grp} (grp : g.Bounded) :
    State.QueuesBounded { s with grp := g } := ⟨bounded.hdu, bounded.clt, grp, bounded.mgu, bounded.zcu⟩

/-- The seven ring counters within their range (R151). -/
abbrev RingCounters.Ranged (c : RingCounters) : Prop :=
  c.checkErrors ≤ 65535 ∧ c.strayCells ≤ 65535 ∧ c.returnedDrops ≤ 65535 ∧ c.hopExpiries ≤ 65535 ∧
    c.transitOverruns ≤ 65535 ∧ c.transmitDrops ≤ 65535 ∧ c.ringDowns ≤ 65535

theorem tame_countRing (s : State) {f : RingCounters → RingCounters}
    (ranged : ∀ c : RingCounters, c.Ranged → (f c).Ranged) :
    Tame s (s.countRing f) :=
  .of_kept (lanesKept_countRing s f) fun bounded =>
    bounded.withRingPort
      ⟨bounded.grp.transit, bounded.grp.localQueue, bounded.grp.general, bounded.grp.straps,
        ranged _ bounded.grp.counters⟩

theorem tame_countChecks (s : State) : Tame s (s.countRing fun c => { c with checkErrors := bump c.checkErrors }) :=
  tame_countRing s fun _ ⟨c1, rest⟩ => ⟨bump_le c1, rest⟩

theorem Mgu.Bounded.join {m : Mgu} (bounded : m.Bounded) {c : MgmtCell} (fits : c.command.fits) : (m.join c).Bounded := by
  obtain ⟨commands, arguments, clock, timeout, holdLimit, drops⟩ := bounded
  unfold Mgu.join Config.commandPlaces
  split
  next room =>
    refine ⟨?_, fun x mem => ?_, clock, timeout, holdLimit, drops⟩
    · rw [List.length_append, List.length_singleton]
      omega
    · obtain old | new := List.mem_append.mp mem
      · exact arguments x old
      · rw [List.mem_singleton.mp new]
        exact fits
  · exact ⟨commands, arguments, clock, timeout, holdLimit, bump_le drops⟩

theorem tame_consume (s : State) (cell : List Byte) : Tame s (s.consume cell) := by
  refine .of_kept (lanesKept_consume s cell) fun bounded => ?_
  unfold State.consume
  split
  · exact bounded.offerIntake _
  · split
    · exact bounded.handVerdict _
    · split
      · exact ⟨bounded.hdu, bounded.clt, bounded.grp, bounded.mgu.join (commandOf_fits _ _), bounded.zcu⟩
      · refine (tame_countRing s ?_).queues bounded
        exact fun _ ⟨c1, c2, rest⟩ => ⟨c1, bump_le c2, rest⟩

/-- A LATE_USE returned is put back where no record of its key stands (R139). -/
theorem State.QueuesBounded.lateUseReturned (bounded : s.QueuesBounded) (lane : Nat) (k : Key) (kind : Kind)
    (time : Nat) :
    (s.lateUseReturned lane k kind time).QueuesBounded := by
  unfold State.lateUseReturned
  split
  · obtain ⟨late, unlogged, drops⟩ := bounded.clt.counters
    exact ⟨bounded.hdu, ⟨bounded.clt.log, bounded.clt.entries, late, unlogged, bump_le drops⟩, bounded.grp, bounded.mgu,
      bounded.zcu⟩
  next room =>
    obtain ⟨places, absent⟩ := not_or.mp room
    refine bounded.setLog _ (Nat.not_le.mp places) (List.pairwise_cons.mpr ⟨fun r mem both => ?_, bounded.clt.entries⟩)
    obtain ⟨entry, entry', key⟩ := both
    refine absent ⟨entry, List.any_eq_true.mpr ⟨r, mem, ?_⟩⟩
    simp only [Bool.and_eq_true, beq_iff_eq]
    exact ⟨entry', key.symm⟩

theorem tame_returned (s : State) (cell : List Byte) : Tame s (s.returned cell) := by
  unfold State.returned
  split
  · unfold State.claimReturned
    (repeat' split)
    case isTrue => exact tame_unreachable s _ _
    all_goals exact .refl s
  · exact .of_kept (lanesKept_lateUseReturned s _ _ _ _) fun bounded => bounded.lateUseReturned _ _ _ _
  · exact tame_countRing s fun _ ⟨c1, c2, c3, rest⟩ => ⟨c1, c2, bump_le c3, rest⟩

theorem tame_forward (s : State) (cell : List Byte) : Tame s (s.forward cell) := by
  unfold State.forward
  split
  next room =>
    refine .of_kept (.of_blocks rfl rfl rfl rfl rfl rfl rfl) fun bounded => bounded.withRingPort ?_
    refine ⟨?_, bounded.grp.localQueue, bounded.grp.general, bounded.grp.straps, bounded.grp.counters⟩
    rw [List.length_append, List.length_singleton]
    exact room
  · exact tame_countRing s fun _ ⟨c1, c2, c3, c4, c5, rest⟩ => ⟨c1, c2, c3, c4, bump_le c5, rest⟩

theorem tame_handleCell (s : State) (cell : List Byte) : Tame s (s.handleCell cell) := by
  unfold State.handleCell
  split
  · exact .refl s
  split
  · exact tame_consume s cell
  split
  · exact tame_returned s cell
  split
  · exact tame_countRing s fun _ ⟨c1, c2, c3, c4, rest⟩ => ⟨c1, c2, c3, bump_le c4, rest⟩
  · exact tame_forward s cell

theorem tame_goodCell (s : State) : Tame s s.goodCell := by
  have heard : Tame s { s with grp := { s.grp with ringUp := true, lastGood := s.timebase } } :=
    .of_kept (.of_blocks rfl rfl rfl rfl rfl rfl rfl) fun bounded =>
      bounded.withRingPort
        ⟨bounded.grp.transit, bounded.grp.localQueue, bounded.grp.general, bounded.grp.straps, bounded.grp.counters⟩
  unfold State.goodCell
  split
  · exact heard
  · exact heard.trans (tame_report _ _)

theorem tame_ringFallen (s : State) : Tame s s.ringFallen := by
  refine .of_kept (lanesKept_ringFallen s) fun bounded => ?_
  obtain ⟨c1, c2, c3, c4, c5, c6, downs⟩ := bounded.grp.counters
  unfold State.ringFallen
  refine State.QueuesBounded.report ?_ _
  exact ⟨bounded.hdu, bounded.clt,
    ⟨bounded.grp.transit, bounded.grp.localQueue, bounded.grp.general, bounded.grp.straps, c1, c2, c3, c4, c5, c6,
      bump_le downs⟩, bounded.mgu, bounded.zcu⟩

theorem Grp.Bounded.localSent {g : Grp} (bounded : g.Bounded) {c : LocalCell} {cs : List LocalCell}
    (queue : g.localQueue = c :: cs) : cs.length ≤ 32 ∧ (cs.filter (·.body.general)).length ≤ 24 := by
  have places := bounded.localQueue
  have general := bounded.general
  rw [queue, List.length_cons] at places
  rw [Grp.generalFill, queue, List.filter_cons] at general
  constructor
  · omega
  · split at general
    · rw [List.length_cons] at general
      omega
    · exact general

theorem Grp.Bounded.transitSent {g : Grp} (bounded : g.Bounded) {t : List Byte} {ts : List (List Byte)}
    (queue : g.transit = t :: ts) : ts.length ≤ 8 := by
  have places := bounded.transit
  rw [queue, List.length_cons] at places
  omega

theorem Grp.Bounded.sendNext {g : Grp} (bounded : g.Bounded) : g.sendNext.Bounded := by
  unfold Grp.sendNext
  split
  next forwarded own =>
    split
    · exact ⟨bounded.transitSent forwarded, bounded.localQueue, bounded.general, bounded.straps, bounded.counters⟩
    · obtain ⟨places, general⟩ := bounded.localSent own
      exact ⟨bounded.transit, places, general, bounded.straps, bounded.counters⟩
  next forwarded own =>
    exact ⟨bounded.transitSent forwarded, bounded.localQueue, bounded.general, bounded.straps, bounded.counters⟩
  next forwarded own =>
    obtain ⟨places, general⟩ := bounded.localSent own
    exact ⟨bounded.transit, places, general, bounded.straps, bounded.counters⟩
  next => exact ⟨bounded.transit, bounded.localQueue, bounded.general, bounded.straps, bounded.counters⟩

/-! ### The home and the tracker -/

theorem State.QueuesBounded.intakeLeft (bounded : s.QueuesBounded) {e : Intake} {rest : List Intake}
    (head : s.hdu.intake = e :: rest) : (s.intakeLeft rest).QueuesBounded := by
  obtain ⟨places, claims, counters⟩ := bounded.hdu
  have sub : rest.Sublist s.hdu.intake := head ▸ List.sublist_cons_self e rest
  exact ⟨⟨sub.length_le.trans places, (sub.filter _).length_le.trans claims, counters⟩, bounded.clt, bounded.grp,
    bounded.mgu, bounded.zcu⟩

theorem lapseOverdue_intake (s : State) : s.lapseOverdue.hdu.intake = s.hdu.intake := by
  unfold State.lapseOverdue
  generalize holdNos = is
  induction is generalizing s with
  | nil => rfl
  | cons i is ih =>
    refine (ih (s.lapseIfOverdue i)).trans ?_
    unfold State.lapseIfOverdue
    split
    · split
      · unfold State.lapse State.endHold State.releaseRecord
        (repeat' split) <;> rfl
      · rfl
    · rfl

theorem tame_takeEntry {e : Intake} {rest : List Intake} (head : s.hdu.intake = e :: rest) {perform : State → State}
    (performed : ∀ x : State, LanesKept x (perform x) ∧ (x.QueuesBounded → (perform x).QueuesBounded)) :
    Tame s (s.takeEntry rest perform) :=
  .of_kept (lanesKept_takeEntry s rest fun x => (performed x).1) fun bounded =>
    (performed _).2 (bounded.lapseOverdue.intakeLeft ((lapseOverdue_intake s).trans head))

theorem State.QueuesBounded.decide (bounded : s.QueuesBounded) (tag : Tag) (k : Key) (a : Asked) :
    (s.decide tag k a).QueuesBounded := by
  unfold State.decide
  split
  · exact bounded.deliverVerdict _ _ _ _
  · dsimp only
    split
    · exact (bounded.createHold _ _ _ _ _).deliverVerdict _ _ _ _
    · exact bounded.deliverVerdict _ _ _ _

theorem State.QueuesBounded.performPassed (bounded : s.QueuesBounded) (tag : Tag) (k : Key) (kind : Kind) (time : Nat) :
    (s.performPassed tag k kind time).QueuesBounded := by
  unfold State.performPassed
  split
  · exact (bounded.endHold _ _ _).reportDuplicate _ _ _ _ _ _
  · exact bounded.applyUse _ _ _ _

theorem State.QueuesBounded.performAbandon (bounded : s.QueuesBounded) (tag : Tag) (k : Key) :
    (s.performAbandon tag k).QueuesBounded := by
  unfold State.performAbandon
  split
  · exact bounded.endHold _ _ _
  · obtain ⟨places, claims, drops, strays⟩ := bounded.hdu
    exact ⟨⟨places, claims, drops, bump_le strays⟩, bounded.clt, bounded.grp, bounded.mgu, bounded.zcu⟩

theorem State.QueuesBounded.countLate (bounded : s.QueuesBounded) :
    State.QueuesBounded { s with clt := { s.clt with lateVerdicts := bump s.clt.lateVerdicts } } := by
  obtain ⟨late, unlogged, drops⟩ := bounded.clt.counters
  exact ⟨bounded.hdu, ⟨bounded.clt.log, bounded.clt.entries, bump_le late, unlogged, drops⟩, bounded.grp, bounded.mgu,
    bounded.zcu⟩

theorem tame_takeVerdict (s : State) (v : HandedVerdict) : Tame s (s.takeVerdict v) := by
  unfold State.takeVerdict
  split
  · exact .of_kept ⟨rfl, rfl, rfl, rfl, rfl, rfl, rfl⟩ fun bounded => bounded.countLate
  split
  · exact (tame_setPlace s _ none).trans (tame_hand _ _ _)
  · refine .of_kept (lanesKept_lateVerdict s v _) fun bounded => ?_
    unfold State.lateVerdict
    dsimp only
    split
    · split
      · exact bounded.countLate.offerIntake _
      · exact bounded.countLate.offer _
    · exact bounded.countLate

theorem State.QueuesBounded.logLeft (bounded : s.QueuesBounded) {r : LogRecord} {rest : List LogRecord}
    (log : s.clt.log = r :: rest) : (s.setLog rest).QueuesBounded := by
  have sub : rest.Sublist s.clt.log := log ▸ List.sublist_cons_self r rest
  exact bounded.setLog rest (sub.length_le.trans bounded.clt.log) (bounded.clt.entries.sublist sub)

/-! ### The commands -/

theorem tame_configure (s : State) (l : LaneNo) (c : LaneConfig) : Tame s (s.configure l c) := by
  by_cases loses : (s.lane l).config.fitted = true ∧ c.fitted = false
  · rw [State.configure_unfitting loses.1 loses.2]
    have changed : Tame s (s.atLane l (fun ln => { ln with config := c, events := ln.events.filter fun e =>
      !e.isPresentation })
        (fun _ => .reset) id) := tame_atLane s l id id fun _ => ⟨Nat.zero_le 2, Nat.zero_le 2, Nat.zero_le 2⟩
    exact changed.trans (tame_port _ rfl)
  · rw [State.configure_keeping (by simpa [imp_iff_not_or] using loses)]
    exact tame_modLane s l id

theorem tame_withoutDelivery (s : State) (l : LaneNo) : Tame s (s.withoutDelivery l) := tame_port s rfl

theorem tame_resetLane (s : State) (l : LaneNo) : Tame s (s.resetLane l) := by
  rw [State.resetLane_eq]
  refine (tame_withoutDelivery _ l).after (tame_endWork_atLane s l _ ?_ ?_)
  · rfl
  · exact id

/-- The commands for a lane. -/
theorem tame_onLane {d : Command} {n : Nat} (named : d.laneNamed = some n) (s : State) : Tame s (d.run s).state := by
  by_cases above : 15 < n
  · rw [Command.run_of_above named above]
    exact .refl s
  obtain ⟨l, rfl⟩ : ∃ l : LaneNo, n = l.val := ⟨⟨n, by omega⟩, rfl⟩
  cases d <;> simp only [Command.laneNamed, Option.some.injEq, reduceCtorEq] at named <;> subst named
  case setLane fitted direction zone classes priority pw ew sl policy =>
    have drawn : Tame s (s.fittedOf fitted).2 := by
      unfold State.fittedOf
      split
      · exact .refl s
      · split
        · exact .refl s
        · exact tame_freeUsed s
    simp only [Command.run, State.setLane, State.onLane_val]
    split
    · exact .refl s
    next c config =>
      split
      · exact .refl s
      · exact drawn.trans (tame_configure _ l c)
  case laneOpen =>
    simp only [Command.run, State.laneOpen, State.onLane_val]
    split
    · exact .refl s
    · split
      · exact .refl s
      · dsimp only [State.accept]
        split
        · rw [State.enter_eq_atLane]
          exact (tame_atLane _ l _ id id).after (tame_modLane s l id)
        · exact tame_modLane s l id
  case laneClose =>
    rw [Command.run, State.laneClose_val]
    change Tame s (if _ then _ else _)
    split
    · exact tame_atLane s l _ id id
    · exact tame_modLane s l id
  case laneReset =>
    rw [Command.run, State.laneReset_val]
    exact tame_resetLane s l
  case laneRelease =>
    rw [Command.run]
    by_cases idle : (s.lane l).state = .idle
    · cases direction : (s.lane l).config.direction with
      | exit =>
        rw [State.laneRelease_exit idle direction]
        exact tame_beginPassage s l _ _
      | entry =>
        rw [State.laneRelease_entry idle direction]
        split
        · exact ((tame_serveZoneAll s l).trans (tame_reserve _ l)).trans (tame_beginPassage _ l _ _)
        · exact tame_serveZoneAll s l
    · rw [State.laneRelease_notIdle idle]
      exact .refl s
  case readLane clear =>
    rw [Command.run, State.readLane_val]
    cases clear with
    | false => exact .refl s
    | true =>
      change Tame s (s.count l fun _ => .zero)
      exact tame_count s l fun _ _ => by decide

theorem settingsOf_ranged (timeout limit : Nat) (mask : Byte) :
    (100 ≤ (settingsOf timeout limit mask).claimTimeout ∧ (settingsOf timeout limit mask).claimTimeout ≤ 2000 ∧
      (settingsOf timeout limit mask).claimTimeout % 10 = 0) ∧
      10 ≤ (settingsOf timeout limit mask).holdLimit ∧ (settingsOf timeout limit mask).holdLimit ≤ 120 := by
  simp only [settingsOf, clamp]
  omega

theorem tame_onKey (s : State) (k : Key) {run : Nat → Record → Answer} (each : ∀ p r, Tame s (run p r).state) :
    Tame s (s.onKey k run).state := by
  unfold State.onKey
  (repeat' split)
  case h_2 => exact each _ _
  all_goals exact .refl s

/-- The table is not among the queues. -/
theorem tame_table (s : State) (a : Adt) : Tame s { s with adt := a } :=
  .of_lanes rfl rfl fun bounded => bounded.of_eq rfl rfl rfl rfl rfl

theorem tame_loadRecord (s : State) (im : Image) : Tame s (s.loadRecord im).1 := by
  unfold State.loadRecord
  split
  · exact tame_table s _
  · exact .refl s

theorem tame_loadFinished (s : State) (first : Status) (second : Option Status) :
    Tame s (s.loadFinished first second).state := by
  unfold State.loadFinished
  (repeat' split)
  case isTrue => exact tame_table s _
  all_goals exact .refl s

theorem tame_firstLoaded (s : State) (x : Option Status) : Tame s { s with mgu := { s.mgu with firstLoaded := x } } :=
  .of_lanes rfl rfl fun bounded =>
    ⟨bounded.hdu, bounded.clt, bounded.grp,
      ⟨bounded.mgu.commands, bounded.mgu.arguments, bounded.mgu.clock, bounded.mgu.timeout, bounded.mgu.holdLimit,
        bounded.mgu.drops⟩, bounded.zcu⟩

theorem tame_loadRecords (s : State) (count : Nat) (first second : Image) :
    Tame s (s.loadRecords count first second).state := by
  unfold State.loadRecords
  split
  · exact .refl s
  · have firstTaken : Tame s (match s.mgu.firstLoaded with
        | some st1 => (({ s with mgu := { s.mgu with firstLoaded := none } } : State), st1)
        | none => s.loadRecord first).1 := by
      split
      · exact tame_firstLoaded s none
      · exact tame_loadRecord s first
    dsimp only
    split
    · exact (firstTaken.trans (tame_loadRecord _ second)).trans (tame_loadFinished _ _ _)
    · exact firstTaken.trans (tame_loadFinished _ _ _)

theorem RingCounters.ranged_zero : RingCounters.zero.Ranged := by decide

theorem tame_clearCounters (s : State) : Tame s s.clearCounters :=
  .of_lanes rfl rfl fun bounded =>
    ⟨⟨bounded.hdu.intake, bounded.hdu.claims, Nat.zero_le _, Nat.zero_le _⟩,
      ⟨bounded.clt.log, bounded.clt.entries, Nat.zero_le _, Nat.zero_le _, Nat.zero_le _⟩,
      ⟨bounded.grp.transit, bounded.grp.localQueue, bounded.grp.general, bounded.grp.straps, RingCounters.ranged_zero⟩,
      ⟨bounded.mgu.commands, bounded.mgu.arguments, bounded.mgu.clock, bounded.mgu.timeout, bounded.mgu.holdLimit,
        Nat.zero_le _⟩, bounded.zcu⟩

theorem tame_handAll (s : State) (e : LaneEvent) : Tame s (s.handAll e) where
  queues bounded := bounded.of_eq rfl rfl rfl rfl rfl
  heads := id
  counters bounded l := by
    rw [State.lane_handAll]
    exact bounded l

theorem tame_lines (s : State) (x : Tlu) : Tame s { s with tlu := x } :=
  .of_lanes rfl rfl fun bounded => bounded.of_eq rfl rfl rfl rfl rfl

/-- A command whose arguments fit their bytes. -/
theorem Command.tame {d : Command} (fits : d.fits) (s : State) : Tame s (d.run s).state := by
  cases named : d.laneNamed with
  | some n => exact tame_onLane named s
  | none =>
    cases d
    case setLane | laneOpen | laneClose | laneReset | laneRelease | readLane => cases named
    case putRecord im =>
      simp only [Command.run, State.putRecord]
      split
      · exact .refl s
      · exact tame_table s _
    case loadOpen count =>
      simp only [Command.run, State.loadOpen]
      (repeat' split)
      case h_2 => exact tame_table s _
      all_goals exact .refl s
    case loadRecords count first second => exact tame_loadRecords s count first second
    case loadAbort =>
      simp only [Command.run, State.loadAbort]
      (repeat' split)
      case h_1 => exact tame_table s _
      all_goals exact .refl s
    case voidKey k => exact tame_onKey s k fun _ _ => tame_table s _
    case restoreKey k => exact tame_onKey s k fun _ _ => tame_table s _
    case dropKey k =>
      refine tame_onKey s k fun _ _ => ?_
      split
      · exact .refl s
      · exact tame_table s _
    case queryKey k => exact tame_onKey s k fun _ _ => .refl s
    case setZone zone quota =>
      simp only [Command.run, State.setZone, State.onZone]
      split
      next below =>
        refine .of_lanes rfl rfl fun bounded => bounded.modZone _ _ ?_
        obtain ⟨count, underflow, -⟩ := bounded.zcu ⟨zone, below⟩
        obtain ⟨-, quota_lt⟩ := fits
        exact ⟨count, underflow, Nat.le_of_lt_succ quota_lt⟩
      · exact .refl s
    case readZone zone clear =>
      simp only [Command.run, State.readZone, State.onZone]
      split
      next below =>
        cases clear with
        | false => exact .refl s
        | true =>
          refine .of_lanes rfl rfl fun bounded => bounded.modZone _ _ ?_
          obtain ⟨count, -, quota⟩ := bounded.zcu ⟨zone, below⟩
          exact ⟨count, Nat.zero_le _, quota⟩
      · exact .refl s
    case setClock second =>
      refine .of_lanes rfl rfl fun bounded => ⟨bounded.hdu, bounded.clt, bounded.grp, ?_, bounded.zcu⟩
      refine ⟨bounded.mgu.commands, bounded.mgu.arguments, fun t set => ?_, bounded.mgu.timeout, bounded.mgu.holdLimit,
        bounded.mgu.drops⟩
      cases set
      exact min_le_right second 1048575
    case setGate timeout limit mask =>
      obtain ⟨ranged, limited⟩ := settingsOf_ranged timeout limit mask
      exact .of_lanes rfl rfl fun bounded =>
        ⟨bounded.hdu, bounded.clt, bounded.grp,
          ⟨bounded.mgu.commands, bounded.mgu.arguments, bounded.mgu.clock, ranged, limited, bounded.mgu.drops⟩,
          bounded.zcu⟩
    case readGate clear =>
      cases clear with
      | false => exact .refl s
      | true => exact tame_clearCounters s
    case emergencyClear =>
      simp only [Command.run, State.emergencyClear]
      split
      · exact .refl s
      · split
        · exact (tame_handAll _ _).after (tame_lines s _)
        · exact .refl s
    case gateClear | unknown => exact .refl s

theorem tame_sent (a : Answer) (c : MgmtCell) : Tame a.state (a.sent c) := by
  unfold Answer.sent
  generalize a.reports = rs
  have reported (x : State) : Tame x (rs.foldl State.report x) := by
    induction rs generalizing x with
    | nil => exact .refl x
    | cons r rs ih => exact (tame_report x r).trans (ih _)
  exact (Tame.of_kept (lanesKept_offer _ _) fun bounded => bounded.reply c a.status a.data).trans (reported _)

theorem tame_commandsLeft {c : MgmtCell} {rest : List MgmtCell} (queue : s.mgu.queue = c :: rest) :
    Tame s (s.commandsLeft rest) := by
  have sub : rest.Sublist s.mgu.queue := queue ▸ List.sublist_cons_self c rest
  exact .of_lanes rfl rfl fun bounded =>
    ⟨bounded.hdu, bounded.clt, bounded.grp,
      ⟨sub.length_le.trans bounded.mgu.commands, fun x mem => bounded.mgu.arguments x (sub.subset mem),
        bounded.mgu.clock, bounded.mgu.timeout, bounded.mgu.holdLimit, bounded.mgu.drops⟩, bounded.zcu⟩

/-! ### Resets -/

theorem Hdu.bounded_reset : Hdu.reset.Bounded := ⟨by decide, by decide, by decide⟩

theorem Clt.bounded_reset : Clt.reset.Bounded := ⟨by decide, List.Pairwise.nil, by decide⟩

theorem Mgu.bounded_reset : Mgu.reset.Bounded := ⟨by decide, nofun, nofun, by decide, by decide, by decide⟩

theorem Grp.bounded_reset (pins : Pins) (now : Nat) (sending : List Byte) :
    Grp.Bounded { Grp.reset pins.ps.toNat (pins.ss.toNat + 1) now with sending := sending } :=
  ⟨Nat.zero_le _, Nat.zero_le _, Nat.zero_le _, ⟨Nat.le_of_lt_succ pins.ps.isLt, Nat.succ_pos _, pins.ss.isLt⟩,
    RingCounters.ranged_zero⟩

/-- Every reset value is within its bounds. -/
theorem queuesBounded_resetBlocks (s : State) (pins : Pins) : (s.resetBlocks pins).QueuesBounded where
  hdu := Hdu.bounded_reset
  clt := Clt.bounded_reset
  grp := Grp.bounded_reset pins s.timebase s.grp.sending
  mgu := Mgu.bounded_reset
  zcu z := by
    have zero : (s.resetBlocks pins).zcu.zones[z] = .zero := State.zone_resetBlocks s pins z
    rw [zero]
    decide

theorem State.head_resetBlocks (s : State) (pins : Pins) (l : LaneNo) : (s.resetBlocks pins).head l = .reset :=
  Vector.getElem_replicate ..

theorem heads_resetBlocks (s : State) (pins : Pins) (l : LaneNo) : ((s.resetBlocks pins).head l).Ranged := by
  rw [State.head_resetBlocks]
  decide

theorem counters_resetBlocks (s : State) (pins : Pins) (l : LaneNo) : ((s.resetBlocks pins).lane l).counters.Bounded := by
  rw [State.lane_resetBlocks]
  exact (by decide : LaneCounters.zero.Bounded)

theorem tame_resetBlocks (s : State) (pins : Pins) : Tame s (s.resetBlocks pins) :=
  ⟨fun _ => queuesBounded_resetBlocks s pins, fun _ => heads_resetBlocks s pins, fun _ => counters_resetBlocks s pins⟩

theorem tame_reportReset (s : State) (pins : Pins) : Tame s (s.reportReset pins) := by
  unfold State.reportReset
  split
  · exact tame_report s _
  · exact .refl s

theorem tame_sending (s : State) (bytes : List Byte) : Tame s { s with grp := { s.grp with sending := bytes } } :=
  .of_lanes rfl rfl fun bounded =>
    bounded.withRingPort
      ⟨bounded.grp.transit, bounded.grp.localQueue, bounded.grp.general, bounded.grp.straps, bounded.grp.counters⟩

theorem tame_poweredOn (s : State) (pins : Pins) : Tame s (s.poweredOn pins) :=
  ((tame_resetBlocks s pins).trans (tame_sending _ [])).trans (tame_reportReset _ pins)

theorem ManagementEffect.tame {pins : Pins} {c : MgmtCell} {rest : List MgmtCell}
    (effect : ManagementEffect s pins c rest t) (head : s.headCommand c rest) (fits : c.command.fits) : Tame s t := by
  have left := tame_commandsLeft head.queue_eq
  cases effect with
  | gateClear =>
    have replied := (tame_resetBlocks s pins).trans
      (.of_kept (lanesKept_offer _ _) fun bounded => bounded.reply c .ok
        (.straps (s.resetBlocks pins).grp.position (s.resetBlocks pins).grp.size (s.resetBlocks pins).grp.strapFault))
    exact replied.trans (tame_reportReset _ pins)
  | badStrap => exact left.trans (.of_kept (lanesKept_offer _ _) fun bounded => bounded.offer _)
  | carriedOut => exact (left.trans (Command.tame fits _)).trans (tame_sent _ c)
  | firstAlone first => exact (tame_loadRecord s first).trans (tame_firstLoaded _ _)

/-! ### Every step -/

theorem Effect.tame {i : Instr} (effect : Effect s i t) (fits : ∀ c ∈ s.mgu.queue, c.command.fits) : Tame s t := by
  cases row : rowLane i with
  | some l => exact effect.tame_lane row
  | none =>
    cases effect
    case notDue => exact .refl s
    case management pins access c rest head named effect =>
      exact effect.tame head (fits c (head.queue_eq ▸ List.mem_cons_self))
    case bus effect => exact effect.tame
    case zoneServed l named => cases row.symm.trans named
    case sweepComplete => exact tame_table s _
    case badCell => exact tame_countChecks s
    case goodCell cell => exact (tame_goodCell s).trans (tame_handleCell _ cell)
    case ringDown =>
      exact (tame_ringFallen s).trans
        (unreachableAll_keeps (P := Tame s.ringFallen) (.refl _) fun _ l e kept _ => kept.trans
          (tame_unreachable _ l e))
    case outputCellEnd => exact .of_lanes rfl rfl fun bounded => bounded.withRingPort bounded.grp.sendNext
    case claim head =>
      exact tame_takeEntry head fun x => ⟨lanesKept_claimTaken x _ _ _, fun bounded => (bounded.lapseReused _).decide _ _ _⟩
    case passed head =>
      exact tame_takeEntry head fun x => ⟨lanesKept_performPassed x _ _ _ _, fun bounded => bounded.performPassed _ _ _ _⟩
    case abandon head =>
      exact tame_takeEntry head fun x => ⟨lanesKept_performAbandon x _ _, fun bounded => bounded.performAbandon _ _⟩
    case lateUse head =>
      exact tame_takeEntry head fun x => ⟨lanesKept_applyUse x _ _ _ _, fun bounded => bounded.applyUse _ _ _ _⟩
    case holdDeadline i h live =>
      exact (tame_reach s h.deadline).trans (.of_kept (lanesKept_lapse _ _ _ _) fun bounded => bounded.lapse _ _ _)
    case verdict v rest inbox =>
      have taken : Tame s { s with clt := { s.clt with inbox := rest } } :=
        .of_lanes rfl rfl fun bounded =>
          ⟨bounded.hdu, ⟨bounded.clt.log, bounded.clt.entries, bounded.clt.counters⟩, bounded.grp, bounded.mgu,
            bounded.zcu⟩
      exact taken.trans (tame_takeVerdict _ v)
    case drainLateUse r rest log =>
      exact .of_kept ((lanesKept_setLog s _).trans (lanesKept_sendNotice _ _ _)) fun bounded =>
        (bounded.logLeft log).sendNotice _ _
    case inputActive | inputInactive => exact tame_lines s _
    case emergencyEdge => exact ((tame_lines s _).trans (tame_handAll _ _)).trans (tame_report _ _)
    case clockSecond second clock =>
      refine .of_lanes rfl rfl fun bounded => ⟨bounded.hdu, bounded.clt, bounded.grp, ?_, bounded.zcu⟩
      refine ⟨bounded.mgu.commands, bounded.mgu.arguments, fun x set => ?_, bounded.mgu.timeout, bounded.mgu.holdLimit,
        bounded.mgu.drops⟩
      cases set
      have before := bounded.mgu.clock second clock
      change (if second < 1048575 then second + 1 else second) ≤ 1048575
      split <;> omega
    all_goals cases row

theorem State.Bounded.of_tame (bounded : s.Bounded) (tame : Tame s t) (stream : t.StreamBounded) : t.Bounded :=
  ⟨tame.queues bounded.queues, tame.heads bounded.heads, tame.counters bounded.lanes, stream⟩

/-- Settles O9: every row joins a queue only below its places, counts with saturation and clamps what it stores. -/
theorem stepKeepsBounds : Obligations.StepKeepsBounds := by
  intro s t bounded stepped
  have stream : s.StreamBounded := bounded.stream
  unfold step at stepped
  split at stepped
  · cases stepped
    exact bounded.of_tame (.of_lanes rfl rfl fun queues => queues.of_eq rfl rfl rfl rfl rfl) stream
  next rest _ =>
    have queued : State.Bounded { s with pending := rest } :=
      bounded.of_tame (.of_lanes rfl rfl fun queues => queues.of_eq rfl rfl rfl rfl rfl) stream
    obtain ⟨pins, -, rfl⟩ | ⟨-, rfl⟩ | effect := exec_cases stepped
    · exact queued.of_tame (tame_poweredOn _ pins)
        ((streamBounded_resetBlocks _ pins).of_kept ((streamKept_reportReset _ pins).after ⟨rfl, rfl⟩))
    · refine queued.of_tame ?_ stream
      exact (tame_lines _ _).trans (Tame.of_lanes rfl rfl fun bounded =>
        ⟨bounded.hdu, bounded.clt, ⟨bounded.grp.transit, bounded.grp.localQueue, bounded.grp.general,
          bounded.grp.straps, bounded.grp.counters⟩, bounded.mgu, bounded.zcu⟩)
    · exact queued.of_tame (effect.tame queued.queues.mgu.arguments)
        (effect.streamBounded queued.queues.mgu.arguments stream)

end

end Sys2Proof.Machine
end

section
/-! SUPPORT. The load stream and the upserts of PUT_RECORD (sections 2.5 and 2.7). -/

namespace Sys2Proof.Machine

section
variable {s : State} {c : MgmtCell} {rest : List MgmtCell}

/-- The lowest straps, and every input inactive. -/
def restingPins : Pins := ⟨0, 0, 0xFFFF, 0xFFFF, true⟩

/-- A command that names no lane, carried out by its row: of LOAD_RECORDS apart. -/
theorem exec_ownCommand {d : Command} (able : s.able) (head : s.headCommand c rest) (command : c.command = d)
    (own : d.always = false) (noLane : d.laneNamed = none)
    (notRecords : ∀ count first second, d ≠ .loadRecords count first second) (pins : Pins) (access : LoadAccess)
    {i : Instr} (row : d.row pins access = i) : exec i s = .next ((d.run (s.commandsLeft rest)).sent c) := by
  subst row command
  rw [exec_row_execute able.1 head own noLane pins access fun count first second is =>
    absurd is (notRecords count first second), State.execute_of_able able]

/-! ### One record of a stream -/

theorem Adt.loadOne_more (a : Adt) (position size : Nat) {st : Stream} (im : Image) (more : 0 < st.remaining) :
    a.loadOne position size st im =
      ⟨(a.upsert position size im).adt, st.counted (a.upsert position size im) im.key,
        (a.upsert position size im).status⟩ := by
  unfold Adt.loadOne Stream.counted
  rw [if_pos more]
  dsimp only
  split
  next taken => rw [taken]
  next refused => cases first : st.firstRejection <;> simp

theorem Adt.loadOne_excess (a : Adt) (position size : Nat) {st : Stream} (im : Image) (used : st.remaining = 0) :
    a.loadOne position size st im = ⟨a, { st with excess := st.excess + 1 }, .noStream⟩ := by
  unfold Adt.loadOne
  rw [if_neg (by omega)]

/-- An upsert does not look at the stream. -/
theorem Adt.upsert_withStream (a : Adt) (x : Option Stream) (position size : Nat) (im : Image) :
    Adt.upsert { a with stream := x } position size im =
      { a.upsert position size im with adt := { (a.upsert position size im).adt with stream := x } } := by
  unfold Adt.upsert
  (repeat' split) <;> simp_all

/-- The part with a cell of LOAD_RECORDS taken from the queue, whose records have come to a table and a stream. -/
def State.loaded (s : State) (rest : List MgmtCell) (a : Adt) (x : Option Stream) : State :=
  { s with adt := { a with stream := x }, mgu := { s.mgu with queue := rest, firstLoaded := none } }

theorem State.loadRecord_more (s : State) (rest : List MgmtCell) (a : Adt) {st : Stream} (im : Image)
    (more : 0 < st.remaining) :
    (s.loaded rest a (some st)).loadRecord im =
      (s.loaded rest (a.upsert s.grp.position s.grp.size im).adt
          (some (st.counted (a.upsert s.grp.position s.grp.size im) im.key)),
        (a.upsert s.grp.position s.grp.size im).status) := by
  simp only [State.loadRecord, State.loaded, Adt.loadOne_more _ _ _ im more, Adt.upsert_withStream]
  rfl

theorem State.loadRecord_excess (s : State) (rest : List MgmtCell) (a : Adt) {st : Stream} (im : Image)
    (used : st.remaining = 0) :
    (s.loaded rest a (some st)).loadRecord im =
      (s.loaded rest a (some { st with excess := st.excess + 1 }), .noStream) := by
  simp only [State.loadRecord, State.loaded, Adt.loadOne_excess _ _ _ im used]

theorem State.loadFinished_open (s : State) (rest : List MgmtCell) (a : Adt) {st : Stream} (first : Status)
    (second : Option Status) (more : st.remaining ≠ 0) :
    (s.loaded rest a (some st)).loadFinished first second =
      (s.loaded rest a (some st)).accept (.loaded first second st.remaining) := by
  simp only [State.loadFinished, State.loaded, more, if_false]

theorem State.loadFinished_closed (s : State) (rest : List MgmtCell) (a : Adt) {st : Stream} (first : Status)
    (second : Option Status) (used : st.remaining = 0) :
    (s.loaded rest a (some st)).loadFinished first second =
      ⟨s.loaded rest a none, .ok, .loaded first second 0, [st.doneReport false]⟩ := by
  simp only [State.loadFinished, State.loaded, used, if_true]

theorem Stream.remaining_counted (st : Stream) (u : Upserted) (k : Key) :
    (st.counted u k).remaining = st.remaining - 1 := by
  unfold Stream.counted
  split <;> rfl

/-! ### The cell as a whole -/

theorem exec_loadRecords_whole {count : Nat} {first second : Image} {access : LoadAccess} (able : s.able)
    (head : s.headCommand c rest) (command : c.command = .loadRecords count first second)
    (whole : s.loadsFirstAlone access count = false) :
    exec (.loadRecords access) s = .next (((s.commandsLeft rest).loadRecords count first second).sent c) := by
  obtain ⟨src, req, _⟩ := c
  subst command
  simp only [exec, execLoadRecords, whenRunning_of_live able.1, head.queue_eq, whole, State.execute_of_able able]
  rfl

/-- The cell taken whole, its records in order. -/
theorem State.loadRecords_fresh {st : Stream} {count : Nat} (first second : Image) (taken : s.loadRefusal count = none)
    (stream : s.adt.stream = some st) (fresh : s.mgu.firstLoaded = none) :
    (s.commandsLeft rest).loadRecords count first second =
      let one := (s.loaded rest s.adt (some st)).loadRecord first
      if count = 2 then
        let two := one.1.loadRecord second
        two.1.loadFinished one.2 (some two.2)
      else one.1.loadFinished one.2 none := by
  have started : s.commandsLeft rest = s.loaded rest s.adt (some st) := by
    rw [State.commandsLeft, State.loaded, ← stream, ← fresh]
  have left : (s.loaded rest s.adt (some st)).loadRefusal count = none := by rwa [← started]
  rw [started]
  simp only [State.loadRecords, left]
  rfl

/-- What is left of a cell whose first record has been taken alone (log entry 13). -/
theorem State.loadRecords_second {st : Stream} {alone : Status} (first second : Image) (taken : s.loadRefusal 2 = none)
    (stream : s.adt.stream = some st) (loaded : s.mgu.firstLoaded = some alone) :
    (s.commandsLeft rest).loadRecords 2 first second =
      let two := (s.loaded rest s.adt (some st)).loadRecord second
      two.1.loadFinished alone (some two.2) := by
  have left : (s.commandsLeft rest).loadRefusal 2 = none := taken
  have started : { s.commandsLeft rest with mgu := { (s.commandsLeft rest).mgu with firstLoaded := none } } =
      s.loaded rest s.adt (some st) := by
    rw [State.commandsLeft, State.loaded, ← stream]
  have waiting : (s.commandsLeft rest).mgu.firstLoaded = some alone := loaded
  simp only [State.loadRecords, left, waiting, if_true, started]

theorem State.loadRefusal_none {st : Stream} {count : Nat} (ready : s.adt.phase = .ready)
    (stream : s.adt.stream = some st)
    (count_ok : count = 1 ∨ count = 2) : s.loadRefusal count = none := by
  have notBad : ¬(count = 0 ∨ 2 < count) := by omega
  simp [State.loadRefusal, ready, stream, notBad]

theorem State.loadsFirstAlone_eq_false {access : LoadAccess} {count : Nat}
    (whole : access = .wholeCell ∨ count ≠ 2 ∨ s.mgu.firstLoaded ≠ none) : s.loadsFirstAlone access count = false := by
  rw [Bool.eq_false_iff]
  intro alone
  obtain ⟨one, two, fresh, -⟩ := (s.loadsFirstAlone_iff access count).mp alone
  obtain rfl | ne | loaded := whole
  · cases one
  · exact ne two
  · exact loaded fresh

section
variable {st : Stream} {first second : Image}

/-- A one-record cell, and a two-record cell taken whole, and the rest of one whose first record has been taken. -/
theorem exec_loadRecords_single (access : LoadAccess) (able : s.able) (head : s.headCommand c rest)
    (command : c.command = .loadRecords 1 first second) (ready : s.adt.phase = .ready) (stream : s.adt.stream = some st)
    (fresh : s.mgu.firstLoaded = none) :
    exec (.loadRecords access) s =
      let one := (s.loaded rest s.adt (some st)).loadRecord first
      .next ((one.1.loadFinished one.2 none).sent c) := by
  rw [exec_loadRecords_whole able head command (State.loadsFirstAlone_eq_false (.inr (.inl (by decide)))),
    State.loadRecords_fresh first second (State.loadRefusal_none ready stream (.inl rfl)) stream fresh]
  rfl

theorem exec_loadRecords_double (able : s.able) (head : s.headCommand c rest)
    (command : c.command = .loadRecords 2 first second) (ready : s.adt.phase = .ready) (stream : s.adt.stream = some st)
    (fresh : s.mgu.firstLoaded = none) :
    exec (.loadRecords .wholeCell) s =
      let one := (s.loaded rest s.adt (some st)).loadRecord first
      let two := one.1.loadRecord second
      .next ((two.1.loadFinished one.2 (some two.2)).sent c) := by
  rw [exec_loadRecords_whole able head command (State.loadsFirstAlone_eq_false (.inl rfl)),
    State.loadRecords_fresh first second (State.loadRefusal_none ready stream (.inr rfl)) stream fresh]
  rfl

theorem exec_loadRecords_rest (access : LoadAccess) {alone : Status} (able : s.able) (head : s.headCommand c rest)
    (command : c.command = .loadRecords 2 first second) (ready : s.adt.phase = .ready) (stream : s.adt.stream = some st)
    (loaded : s.mgu.firstLoaded = some alone) :
    exec (.loadRecords access) s =
      let two := (s.loaded rest s.adt (some st)).loadRecord second
      .next ((two.1.loadFinished alone (some two.2)).sent c) := by
  rw [exec_loadRecords_whole able head command (State.loadsFirstAlone_eq_false (.inr (.inr (by simp [loaded])))),
    State.loadRecords_second first second (State.loadRefusal_none ready stream (.inr rfl)) stream loaded]

end

/-- Settles O19: the records of a cell counted in order, then the stream closed once none remain. -/
theorem loadRecordsTaken : Obligations.LoadRecordsTaken := by
  intro s c rest count first second st access able head command ready stream u1 st1 u2 st2 v stv after done
  have remaining1 : st1.remaining = st.remaining - 1 := Stream.remaining_counted _ _ _
  have remaining2 : st2.remaining = st.remaining - 1 - 1 := (Stream.remaining_counted _ _ _).trans (by rw [remaining1])
  have remainingv : stv.remaining = st.remaining - 1 := Stream.remaining_counted _ _ _
  have one_more (more : 0 < st.remaining) : (s.loaded rest s.adt (some st)).loadRecord first =
      (s.loaded rest u1.adt (some st1), u1.status) := s.loadRecord_more rest s.adt first more
  have two_more (more : 1 < st.remaining) : (s.loaded rest u1.adt (some st1)).loadRecord second =
      (s.loaded rest u2.adt (some st2), u2.status) := s.loadRecord_more rest u1.adt second (by omega)
  have v_more (more : 0 < st.remaining) : (s.loaded rest s.adt (some st)).loadRecord second =
      (s.loaded rest v.adt (some stv), v.status) := s.loadRecord_more rest s.adt second more
  refine ⟨fun fresh => ⟨?_, ?_, ?_, ?_, ?_⟩, fun taken loaded two => ⟨?_, ?_, ?_⟩⟩
  · rintro rfl more
    rw [exec_loadRecords_single access able head command ready stream fresh, one_more (by omega)]
    dsimp only
    rw [State.loadFinished_open _ _ _ _ _ (by omega), remaining1]
    rfl
  · rintro rfl last
    rw [exec_loadRecords_single access able head command ready stream fresh, one_more (by omega)]
    dsimp only
    rw [State.loadFinished_closed _ _ _ _ _ (by omega)]
    rfl
  · rintro rfl more
    rw [exec_loadRecords_double able head command ready stream fresh, one_more (by omega)]
    dsimp only
    rw [two_more (by omega), State.loadFinished_open _ _ _ _ _ (by omega), remaining2]
    rfl
  · rintro rfl last
    rw [exec_loadRecords_double able head command ready stream fresh, one_more (by omega)]
    dsimp only
    rw [two_more (by omega), State.loadFinished_closed _ _ _ _ _ (by omega)]
    rfl
  · rintro rfl last
    rw [exec_loadRecords_double able head command ready stream fresh, one_more (by omega)]
    dsimp only
    rw [State.loadRecord_excess _ _ _ _ (by omega), State.loadFinished_closed _ _ _ _ _ (by dsimp only; omega)]
    rfl
  all_goals
    subst two
    rw [exec_loadRecords_rest access able head command ready stream loaded]
    dsimp only
  · intro more
    rw [v_more (by omega), State.loadFinished_open _ _ _ _ _ (by omega), remainingv]
    rfl
  · intro last
    rw [v_more (by omega), State.loadFinished_closed _ _ _ _ _ (by omega)]
    rfl
  · intro used
    rw [State.loadRecord_excess _ _ _ _ used, State.loadFinished_closed _ _ _ _ _ (by dsimp only; omega)]
    rfl

/-! ### The first record taken alone -/

theorem State.loadFirstAlone_more {st : Stream} {first : Image} (stream : s.adt.stream = some st)
    (more : 0 < st.remaining) :
    s.loadFirstAlone first =
      { s with
        adt :=
          { (s.adt.upsert s.grp.position s.grp.size first).adt with
            stream := some (st.counted (s.adt.upsert s.grp.position s.grp.size first) first.key) }
        mgu := { s.mgu with firstLoaded := some (s.adt.upsert s.grp.position s.grp.size first).status } } := by
  simp only [State.loadFirstAlone, State.loadRecord, stream, Adt.loadOne_more _ _ _ first more]

theorem State.loadFirstAlone_excess {st : Stream} {first : Image} (stream : s.adt.stream = some st)
    (used : st.remaining = 0) :
    s.loadFirstAlone first =
      { s with
        adt := { s.adt with stream := some { st with excess := st.excess + 1 } }
        mgu := { s.mgu with firstLoaded := some .noStream } } := by
  simp only [State.loadFirstAlone, State.loadRecord, stream, Adt.loadOne_excess _ _ _ first used]

/-- Settles O20: what the first access leaves is what the whole cell has come to after its first record. -/
theorem loadAccessesAgree : Obligations.LoadAccessesAgree := by
  intro s c rest first second st access able head command ready stream fresh u t
  have alone : s.loadsFirstAlone .oneRecord 2 = true :=
    (s.loadsFirstAlone_iff _ _).mpr
      ⟨rfl, rfl, fresh, State.loadRefusal_none ready stream (.inr rfl), able.not_strapFault⟩
  rw [exec_loadRecords_first able.1 head command alone, exec_loadRecords_double able head command ready stream fresh]
  by_cases more : 0 < st.remaining
  · have first_alone : t = s.loadFirstAlone first :=
      (if_pos more).trans (State.loadFirstAlone_more stream more).symm
    refine ⟨by rw [first_alone], ?_, _, ?_, rfl⟩
    · rw [first_alone, State.loadFirstAlone_more stream more]
      exact head
    · rw [first_alone, State.loadFirstAlone_more stream more, exec_loadRecords_rest access (by exact able)
        (by exact head) command ((s.adt.phase_upsert _ _ _).trans ready) rfl rfl, State.loadRecord_more _ _ _ first more]
      rfl
  · have used : st.remaining = 0 := by omega
    have first_alone : t = s.loadFirstAlone first :=
      (if_neg more).trans (State.loadFirstAlone_excess stream used).symm
    refine ⟨by rw [first_alone], ?_, _, ?_, rfl⟩
    · rw [first_alone, State.loadFirstAlone_excess stream used]
      exact head
    · rw [first_alone, State.loadFirstAlone_excess stream used, exec_loadRecords_rest access (by exact able)
        (by exact head) command (by exact ready) rfl rfl, State.loadRecord_excess _ _ _ first used]
      rfl

/-! ### LOAD_ABORT, PUT_RECORD and the sweep's end -/

/-- Settles O21: the three cases of R36 in their order. -/
theorem loadAbortClosesStream : Obligations.LoadAbortClosesStream := by
  intro s c rest able head command
  have left_phase : (s.commandsLeft rest).adt.phase = s.adt.phase := rfl
  have left_stream : (s.commandsLeft rest).adt.stream = s.adt.stream := rfl
  rw [exec_ownCommand able head command rfl rfl nofun restingPins .wholeCell (i := .loadAbort) rfl, Command.run]
  refine ⟨fun sweeping => ?_, fun ready closed => ?_, fun st ready opened => ?_⟩
  · rw [State.loadAbort, left_phase, if_pos sweeping]
    rfl
  · simp only [State.loadAbort, left_phase, left_stream, ready, closed]
    rfl
  · simp only [State.loadAbort, left_phase, left_stream, ready, opened]
    rfl

/-- A record that passes the four tests of R22. -/
theorem Image.fault_eq_none_of {im : Image} {position size : Nat} (formed : im.key.formed = true)
    (zones : im.static.zones ≠ 0) (hours : im.static.openMinute < im.static.closeMinute)
    (home : im.key.value % size = position) : im.fault position size = none := by
  have stays : im.key.home size = position := home
  simpa [Image.fault, formed, Nat.not_le.mpr hours, stays] using zones

/-- The first entry of an ordered list that passes a test comes before every other that passes it. -/
theorem find?_first {α : Type} {R : α → α → Prop} {xs : List α} {f : α → Bool} {x y : α} (sorted : xs.Pairwise R)
    (found : xs.find? f = some y) (mem : x ∈ xs) (passes : f x = true) : y = x ∨ R y x := by
  induction xs with
  | nil => cases mem
  | cons a xs ih =>
    obtain ⟨above, tail⟩ := List.pairwise_cons.mp sorted
    rw [List.find?_cons] at found
    split at found
    · cases found
      obtain rfl | later := List.mem_cons.mp mem
      · exact .inl rfl
      · exact .inr (above x later)
    next fails =>
      obtain rfl | later := List.mem_cons.mp mem
      · rw [passes] at fails
        cases fails
      · exact ih tail found later

theorem bucketSlots_sorted (b : Nat) : (bucketSlots b).Pairwise (· < ·) := by
  unfold bucketSlots
  rw [List.pairwise_map]
  exact List.pairwise_lt_range.imp fun lt => Nat.add_lt_add_left lt _

/-- The slot of an insertion is the lowest empty one of the bucket (R17). -/
theorem Table.vacant_of_first {t : Table} {size : Nat} {k : Key} {p : Nat} (bucket : p / 8 = k.bucket size)
    (empty : t.read p = none) (before : ∀ q, q < p → q / 8 = k.bucket size → t.read q ≠ none) :
    t.vacant size k = some p := by
  have slot : p ∈ bucketSlots (k.bucket size) := (mem_bucketSlots _ _).mpr (by omega)
  have passes : (t.read p).isNone = true := by rw [empty]; rfl
  cases found : t.vacant size k with
  | none => exact absurd passes (List.find?_eq_none.mp found p slot)
  | some q =>
    obtain ⟨within, vacant⟩ := Table.vacant_some found
    obtain rfl | below := find?_first (bucketSlots_sorted _) found slot passes
    · rfl
    · exact absurd vacant (before q below (by omega))

theorem Table.vacant_of_full {t : Table} {size : Nat} {k : Key}
    (full : ∀ p, p / 8 = k.bucket size → t.read p ≠ none) : t.vacant size k = none := by
  cases found : t.vacant size k with
  | none => rfl
  | some q =>
    obtain ⟨within, vacant⟩ := Table.vacant_some found
    exact absurd vacant (full q (by omega))

section
variable {a : Adt} {position size p : Nat} {im : Image}

theorem Adt.upsert_found {r : Record} (passed : im.fault position size = none)
    (lookup : a.table.lookup size im.key = some p) (record : a.table.read p = some r) :
    a.upsert position size im =
      ⟨{ a with table := a.table.write p { r with static := im.static } }, .ok, .replaced⟩ := by
  simp only [Adt.upsert, passed, lookup, record]

theorem Adt.upsert_vacant (passed : im.fault position size = none) (lookup : a.table.lookup size im.key = none)
    (vacant : a.table.vacant size im.key = some p) :
    a.upsert position size im = ⟨{ a with table := a.table.write p im.inserted, fill := a.fill + 1 }, .ok, .new⟩ := by
  simp only [Adt.upsert, passed, lookup, vacant]

theorem Adt.upsert_full (passed : im.fault position size = none) (lookup : a.table.lookup size im.key = none)
    (full : a.table.vacant size im.key = none) : a.upsert position size im = ⟨a, .bucketFull, .refused⟩ := by
  simp only [Adt.upsert, passed, lookup, full]

end

/-- Settles O14: an upsert replaces, inserts or refuses by what the two lookups of R17 answer. -/
theorem putRecordUpserts : Obligations.PutRecordUpserts := by
  intro s c rest im able head command ready formed zones hours home
  have passed : im.fault s.grp.position s.grp.size = none := Image.fault_eq_none_of formed zones hours home
  have upserted (u : Upserted) (upsert : s.adt.upsert s.grp.position s.grp.size im = u) :
      exec .putRecord s = .next (State.reply { s.commandsLeft rest with adt := u.adt } c u.status (.put u.outcome)) := by
    have left : (s.commandsLeft rest).adt.upsert (s.commandsLeft rest).grp.position (s.commandsLeft rest).grp.size im = u :=
      upsert
    have notSweeping : (s.commandsLeft rest).adt.phase ≠ .sweeping := by
      change s.adt.phase ≠ .sweeping
      rw [ready]
      exact nofun
    rw [exec_putRecord able head command, State.putRecord, if_neg notSweeping, left]
    rfl
  refine ⟨fun p r filed => ?_, fun absent p bucket empty first => ?_, fun absent full => ?_⟩
  · exact upserted _ (Adt.upsert_found passed (State.lookup_of_filedAt filed) filed.1)
  · exact upserted _ (Adt.upsert_vacant passed (State.lookup_of_notFiled absent)
      (Table.vacant_of_first bucket empty first))
  · exact upserted _ (Adt.upsert_full passed (State.lookup_of_notFiled absent) (Table.vacant_of_full full))

/-- Settles O8: the sweep's end, and no sweep. -/
theorem sweepCompleteEmptiesTable : Obligations.SweepCompleteEmptiesTable := by
  intro s live
  refine ⟨fun sweeping => ?_, fun ready => ?_⟩
  · simp only [exec, execSweepComplete, whenRunning_of_live live, sweeping, if_true]
  · simp only [exec, execSweepComplete, whenRunning_of_live live, ready, reduceCtorEq, if_false]

end

end Sys2Proof.Machine
end

section
/-! SUPPORT. What the resets leave (sections 5.7, 8.7 and 10.5). -/

namespace Sys2Proof.Machine

section
variable {s : State}

/-- The part as a power-on leaves it, block by block. -/
theorem State.poweredOn_eq (s : State) (pins : Pins) :
    s.poweredOn pins =
      { s.resetBlocks pins with
        grp :=
          { Grp.reset pins.ps.toNat (pins.ss.toNat + 1) s.timebase with
            localQueue := if pins.erel then [] else [⟨15, .timed (.emergency .reset) none⟩] } } := by
  unfold State.poweredOn State.reportReset emergencyPin
  cases pins.erel <;> rfl

/-- Settles O4: the blocks of `State.resetBlocks`, field by field. -/
theorem powerOnLeavesResetValues : Obligations.PowerOnLeavesResetValues := by
  intro pins s
  refine ⟨_, (exec_powerOn pins s).trans (congrArg _ (s.poweredOn_eq pins)), rfl, rfl, rfl, rfl, rfl,
    ⟨rfl, fun i => Vector.getElem_replicate .., rfl, rfl⟩,
    ⟨fun l => Vector.getElem_replicate .., rfl, rfl, rfl, rfl, rfl⟩, fun l => ?_,
    ⟨fun l => s.head_resetBlocks pins l, rfl, rfl, rfl, rfl, rfl⟩, ⟨fun z => s.zone_resetBlocks pins z, rfl⟩, fun l => ?_,
    ⟨rfl, rfl, rfl⟩, rfl, rfl⟩
  · refine (s.lane_resetBlocks pins l).trans ?_
    unfold Lane.afterReset emergencyPin
    cases pins.erel <;> rfl
  · exact s.line_resetBlocks pins l

/-- Settles O5: the reply stands before the report of the reset, in a queue that both find empty. -/
theorem gateClearIsPowerOnWithReply : Obligations.GateClearIsPowerOnWithReply := by
  intro pins s c rest live head command
  refine ⟨_, (exec_powerOn pins s).trans (congrArg _ (s.poweredOn_eq pins)), ?_⟩
  rw [exec_gateClear live head command]
  unfold State.gateCleared State.reportReset emergencyPin
  dsimp only
  rw [State.reply, command]
  cases pins.erel <;> rfl

/-- Settles O6: section 5.7's hold on the lines, and the output. -/
theorem rstnLowHoldsTheLines : Obligations.RstnLowHoldsTheLines := by
  intro s
  exact ⟨_, exec_rstnLow s, rfl, ⟨rfl, rfl, rfl⟩, fun l => State.line_heldInReset s l⟩

theorem poweredOn_reset : State.reset.poweredOn restingPins = State.reset := by
  rw [State.poweredOn_eq]
  rfl

theorem resetBlocks_reset : State.reset.resetBlocks restingPins = State.reset := rfl

/-- Settles O7: the reset state is a part right after a power-on, so each invariant's base case is its reset. -/
theorem resetStateIsPowerOnAndSafe : Obligations.ResetStateIsPowerOnAndSafe := by
  refine ⟨(exec_powerOn restingPins State.reset).trans (congrArg _ poweredOn_reset), ?_⟩
  rw [← resetBlocks_reset]
  exact
    { bounded := ⟨queuesBounded_resetBlocks _ _, heads_resetBlocks _ _, counters_resetBlocks _ _,
        streamBounded_resetBlocks _ _⟩
      table := tableSound_resetBlocks ⟨List.Pairwise.nil, fun _ mem => absurd mem List.not_mem_nil⟩ _
      lanes := lanesSound_resetBlocks _ _
      zones := zonesSound_resetBlocks _ _ }

end

end Sys2Proof.Machine
end

section
/-! SUPPORT. The commands on the part as a whole, and the zone requests (chapters 9 and 10). -/

namespace Sys2Proof.Machine

section
variable {s : State} {c : MgmtCell} {rest : List MgmtCell}

/-! ### SET_CLOCK, SET_GATE -/

/-- Settles O23: the clamp of R168, and the two branches of CLOCK_SECOND. -/
theorem clockIsSetAndCounts : Obligations.ClockIsSetAndCounts := by
  refine ⟨fun s c rest second able head command => ?_, fun s live => ⟨fun unset => ?_, fun v set => ?_⟩⟩
  · rw [exec_ownCommand able head command rfl rfl nofun restingPins .wholeCell (i := .setClock) rfl, Command.run,
      State.setClock]
    refine ⟨fun within => ?_, fun beyond => ?_⟩
    · have stored : min second Config.maxSecond = second := min_eq_left within
      rw [stored, if_pos (show second ≤ Config.maxSecond from within)]
      rfl
    · have stored : min second Config.maxSecond = 1048575 := min_eq_right beyond.le
      rw [stored, if_neg (show ¬second ≤ Config.maxSecond from Nat.not_le.mpr beyond)]
      rfl
  · simp only [exec, execClockSecond, whenRunning_of_live live, unset]
  · simp only [exec, execClockSecond, whenRunning_of_live live, set]
    rfl

theorem settingsOf_mask (timeout limit : Nat) (mask : Byte) :
    (settingsOf timeout limit mask).mask = ⟨mask.getLsbD 0, mask.getLsbD 1, mask.getLsbD 2⟩ := rfl

/-- Settings are stored as carried exactly when both lie in their ranges, the timeout on a multiple of 10 ms (R169). -/
theorem settingsOf_asCarried (timeout limit : Nat) (mask : Byte) :
    ((settingsOf timeout limit mask).claimTimeout = timeout ∧ (settingsOf timeout limit mask).holdLimit = limit) ↔
      (timeout % 10 = 0 ∧ 100 ≤ timeout ∧ timeout ≤ 2000 ∧ 10 ≤ limit ∧ limit ≤ 120) := by
  simp only [settingsOf, clamp]
  omega

/-- Settles O25: the clamps of R169. -/
theorem setGateStoresSettings : Obligations.SetGateStoresSettings := by
  intro s c rest timeout limit mask able head command
  refine ⟨settingsOf timeout limit mask, ?_, ?_, ?_, ?_, ?_, ?_, settingsOf_mask timeout limit mask, ?_⟩
  case refine_7 =>
    rw [exec_ownCommand able head command rfl rfl nofun restingPins .wholeCell (i := .setGate) rfl, Command.run,
      State.setGate]
    simp only [settingsOf_asCarried]
    rfl
  all_goals
    simp only [settingsOf, clamp]
    omega

/-! ### READ_GATE -/

theorem Grp.generalFill_eq_countP (g : Grp) : g.generalFill = g.localQueue.countP (·.body.general) :=
  List.countP_eq_length_filter.symm

theorem Adt.status_eq (a : Adt) :
    a.status = if a.phase = .sweeping then .sweeping else if a.stream.isSome then .loading else .ready := by
  unfold Adt.status
  cases a.phase <;> cases a.stream <;> rfl

theorem Adt.remaining_eq (a : Adt) :
    a.remaining = if a.phase = .sweeping then 0 else (a.stream.map (·.remaining)).getD 0 := by
  unfold Adt.remaining
  cases a.phase <;> cases a.stream <;> rfl

theorem holdNos_eq : holdNos = List.finRange 64 := by decide

theorem State.holdCount_eq (s : State) : s.holdCount = (List.finRange 64).countP fun i => (s.holdAt i).isSome := by
  rw [State.holdCount, holdNos_eq, List.countP_eq_length_filter]

/-- Settles O26: each value of R170's table by its owner, and the counters of R171. -/
theorem readGateReturnsAndClears : Obligations.ReadGateReturnsAndClears := by
  intro s c rest clear live head command g
  have readout : (s.commandsLeft rest).gateReadout = g := by
    simp only [State.gateReadout, Grp.generalFill_eq_countP, Adt.status_eq, Adt.remaining_eq, State.holdCount_eq,
      laneNos_eq, ← List.countP_eq_length_filter]
    rfl
  have read : exec .readGate s = .next (((s.commandsLeft rest).readGate clear).sent c) := by
    have row := exec_row_always live head (by rw [command]; rfl) (by rw [command]; exact nofun) restingPins .wholeCell
    rwa [command] at row
  rw [read, State.readGate, readout]
  refine ⟨?_, ?_⟩ <;> rintro rfl <;> rfl

/-! ### EMERGENCY_CLEAR -/

/-- Settles O27: the three cases of R109. -/
theorem emergencyClearCases : Obligations.EmergencyClearCases := by
  intro s c rest able head command
  rw [exec_ownCommand able head command rfl rfl nofun restingPins .wholeCell (i := .emergencyClear) rfl, Command.run,
    State.emergencyClear]
  have input : (s.commandsLeft rest).tlu = s.tlu := rfl
  refine ⟨fun active => ?_, fun inactive clear => ?_, fun inactive latched => ?_⟩
  · rw [input, if_pos active]
    rfl
  · simp only [input, inactive, clear]
    rfl
  · refine ⟨State.handAll { s.commandsLeft rest with tlu := { s.tlu with latched := false } } .latchClearing,
      fun l => State.lane_handAll _ _ l, rfl, ?_⟩
    simp only [input, inactive, latched, if_true, Bool.false_eq_true, if_false]
    rfl

/-! ### Zone requests -/

theorem State.zoneRequest_of_first {l : LaneNo} {before after : List ZoneRequest} {r : ZoneRequest}
    (requests : s.zcu.requests = before ++ r :: after) (others : ∀ x ∈ before, x.lane ≠ l) (own : r.lane = l) :
    s.zoneRequest l = some r := by
  rw [State.zoneRequest, requests, List.find?_append]
  have none_before : before.find? (fun x => x.lane == l) = none :=
    List.find?_eq_none.mpr fun x mem => by simp [others x mem]
  rw [none_before, List.find?_cons, beq_iff_eq.mpr own]
  rfl

theorem dropRequest_of_first {l : LaneNo} {before after : List ZoneRequest} {r : ZoneRequest}
    (others : ∀ x ∈ before, x.lane ≠ l) (own : r.lane = l) : dropRequest l (before ++ r :: after) = before ++ after := by
  induction before with
  | nil => exact if_pos own
  | cons x before ih =>
    rw [List.cons_append, dropRequest, if_neg (others x List.mem_cons_self),
      ih fun y mem => others y (List.mem_cons_of_mem x mem), List.cons_append]

theorem State.serveZoneIf_of_request {l : LaneNo} {r : ZoneRequest} (request : s.zoneRequest l = some r)
    (ask : ZoneAsk) :
    s.serveZoneIf l ask = if r.ask = ask then (s.requestDropped l).modZone r.zone r.ask.apply else s := by
  rw [State.serveZoneIf, request, State.serveZone_of_request s l request]

theorem Zone.exit_eq :
    ZoneAsk.exit.apply = fun r : Zone =>
      if r.count = 0 then { r with underflow := if r.underflow < 65535 then r.underflow + 1 else r.underflow }
      else { r with count := r.count - 1 } := by
  funext r
  rw [ZoneAsk.apply, Zone.exit]
  by_cases empty : r.count = 0
  · rw [if_neg (by omega), if_pos empty]
    rfl
  · rw [if_pos (by omega), if_neg empty]

/-- Settles O29: the row that names the oldest request takes it, and the other two are not due. -/
theorem zoneRequestsTaken : Obligations.ZoneRequestsTaken := by
  intro s l before after z ask live requests others left
  have request := State.zoneRequest_of_first requests others rfl
  have dropped : s.requestDropped l = left := by
    rw [State.requestDropped, requests, dropRequest_of_first others rfl]
  have served (named : ZoneAsk) (effect : Zone → Zone) (is : named.apply = effect) :
      s.serveZoneIf l named = if ask = named then left.modZone z effect else s := by
    rw [State.serveZoneIf_of_request request, dropped]
    split
    next same => rw [same, is]
    next => rfl
  refine ⟨?_, ?_, ?_⟩
  · simp only [exec, execZoneConvert, whenRunning_of_live live]
    rw [served .convert _ rfl]
    rfl
  · simp only [exec, execZoneRelease, whenRunning_of_live live]
    rw [served .release _ rfl]
    rfl
  · simp only [exec, execZoneExit, whenRunning_of_live live]
    rw [served .exit _ Zone.exit_eq]

end

end Sys2Proof.Machine
end

section
/-! SUPPORT. The queues of the ring port and the home, the cells received and the output (chapters 3 and 8). -/

namespace Sys2Proof.Machine

section
variable {s : State}

/-! ### Cells offered to the local transmit queue -/

/-- VERDICT, PASSED and ABANDON are the cells that are not general (R148). -/
theorem CellBody.general_eq (b : CellBody) : b.general = !([0x02, 0x03, 0x04] : List Byte).contains b.type := by
  cases b with
  | intake e => cases e <;> rfl
  | _ => rfl

theorem CellBody.countedWhenRefused_eq (b : CellBody) :
    b.countedWhenRefused = (b.type != 0x01 && b.type != 0x05) := by
  cases b with
  | intake e => cases e <;> rfl
  | _ => rfl

theorem Grp.accepts_iff (g : Grp) (b : CellBody) :
    g.accepts b = true ↔ g.localQueue.length < 32 ∧ (b.general = true → g.generalFill < 24) := by
  cases general : b.general with
  | false =>
    rw [Grp.accepts, general, if_neg Bool.false_ne_true, decide_eq_true_iff]
    simp [Config.localPlaces]
  | true =>
    rw [Grp.accepts, general, if_pos rfl, Grp.generalRoom_iff]
    simp [Grp.generalFill]

theorem State.offer_accepted {c : LocalCell} (accepts : s.grp.accepts c.body = true) :
    s.offer c = { s with grp := { s.grp with localQueue := s.grp.localQueue ++ [c] } } := by
  rw [State.offer, Grp.offer, if_pos accepts]

theorem State.offer_told {c : LocalCell} (refused : s.grp.accepts c.body = false)
    (told : c.body.countedWhenRefused = false) : s.offer c = s := by
  rw [State.offer, Grp.offer, refused, told]
  rfl

theorem State.offer_dropped {c : LocalCell} (refused : s.grp.accepts c.body = false)
    (counted : c.body.countedWhenRefused = true) :
    s.offer c = s.countRing fun x => { x with transmitDrops := bump x.transmitDrops } := by
  rw [State.offer, Grp.offer, refused, counted]
  rfl

/-! ### Entries offered to the intake queue -/

section
variable {t : Tag} {k : Key} {kind : Kind} {time zone : Nat} {classes : BitVec 16} {e : Intake}

theorem State.offerIntake_joins (room : s.hdu.intake.length < if e.isClaim then 32 else 48) :
    s.offerIntake e = { s with hdu := { s.hdu with intake := s.hdu.intake ++ [e] } } := by
  have joined : s.hdu.join e = { s.hdu with intake := s.hdu.intake ++ [e] } := if_pos room
  cases e with
  | claim => rw [State.offerIntake, if_pos (show _ < Config.intakeClaimPlaces from room), joined]
  | _ => rw [State.offerIntake, joined]; exact nofun

theorem State.offerIntake_busy (full : 32 ≤ s.hdu.intake.length) :
    s.offerIntake (.claim t k kind time zone classes) = s.deliverVerdict t k .homeBusy 0 :=
  if_neg (Nat.not_lt.mpr full)

theorem State.offerIntake_dropped (notice : e.isClaim = false) (full : 48 ≤ s.hdu.intake.length) :
    s.offerIntake e = { s with hdu := { s.hdu with noticeDrops := bump s.hdu.noticeDrops } } := by
  have dropped : s.hdu.join e = { s.hdu with noticeDrops := bump s.hdu.noticeDrops } := by
    simp only [Hdu.join, notice, Bool.false_eq_true, if_false, Config.intakePlaces, Nat.not_lt.mpr full]
  cases e with
  | claim => cases notice
  | _ => rw [State.offerIntake, dropped]; exact nofun

end

/-! ### Reports -/

/-- The three kinds of report that the mask may hold back (R173). -/
theorem Mask.permits_eq_false_iff (m : Mask) (r : Report) :
    m.permits r = false ↔
      r.code = 0x01 ∧ m.passage = false ∨ r.code = 0x02 ∧ m.forced = false ∨ r.code = 0x03 ∧ m.provisional = false := by
  cases r <;> simp [Mask.permits, Report.code]

/-- Settles O37: the places of R40 and R148, and the mask of R173. -/
theorem queuesShareTheirPlaces : Obligations.QueuesShareTheirPlaces := by
  refine ⟨?_, ?_, ?_⟩
  · intro s c general full
    have general_eq : general = fun x => x.body.general := funext fun x => (CellBody.general_eq x.body).symm
    have full_iff : full ↔ s.grp.accepts c.body = false := by
      rw [Bool.eq_false_iff, ne_eq, Grp.accepts_iff, not_and_or, Classical.not_imp, Nat.not_lt, Nat.not_lt]
      simp only [full, general_eq, Grp.generalFill]
    have counted_iff : c.body.countedWhenRefused = false ↔ c.body.type = 0x01 ∨ c.body.type = 0x05 := by
      rw [CellBody.countedWhenRefused_eq]
      rw [Bool.and_eq_false_iff, bne_eq_false_iff_eq, bne_eq_false_iff_eq]
    refine ⟨fun room => ?_, fun filled told => ?_, fun filled one five => ?_⟩
    · exact State.offer_accepted (by simpa [full_iff] using room)
    · exact State.offer_told (full_iff.mp filled) (counted_iff.mpr told)
    · exact State.offer_dropped (full_iff.mp filled) (by
        rw [← Bool.not_eq_false, counted_iff]
        exact fun either => either.elim one five)
  · intro s e queued
    refine ⟨?_, fun notice => ⟨fun room => ?_, State.offerIntake_dropped notice⟩⟩
    · rintro t k kind time zone classes rfl
      refine ⟨fun room => State.offerIntake_joins room, fun full atHome => ?_, fun full away => ?_⟩
      · rw [State.offerIntake_busy full, State.deliverVerdict, if_pos atHome]
        rfl
      · rw [State.offerIntake_busy full, State.deliverVerdict, if_neg away]
    · exact State.offerIntake_joins (by simpa [notice] using room)
  · intro s r m held
    refine ⟨fun masked => ?_, fun permitted => ?_⟩
    · have blocked : m.permits r = false := (Mask.permits_eq_false_iff _ _).mpr masked
      simp only [State.report, m, blocked]
      rfl
    · have passes : m.permits r = true := by
        rw [← Bool.not_eq_false, Mask.permits_eq_false_iff]
        exact permitted
      simp only [State.report, m, passes]
      rfl

/-! ### Cells received -/

theorem cellDestination_eq {cell : List Byte} (length : cell.length = 64) :
    cellDestination cell = (cell.getD 0 0).toNat % 16 := by
  rw [cellDestination, natAt_one cell 0 (by omega), byteAt]

theorem cellSource_eq {cell : List Byte} (length : cell.length = 64) :
    cellSource cell = (cell.getD 1 0).toNat % 16 := by
  rw [cellSource, natAt_one cell 1 (by omega), byteAt]

theorem cellHops_eq {cell : List Byte} (length : cell.length = 64) :
    cellHops cell = (cell.getD 3 0).toNat % 16 := by
  rw [cellHops, natAt_one cell 3 (by omega), byteAt]

theorem goodCheck_iff {cell : List Byte} (length : cell.length = 64) :
    goodCheck cell = true ↔ cell.drop 62 = crcBytes (cell.take 62) := by
  rw [goodCheck, beq_iff_eq, slice, List.take_of_length_le (by simp [length])]

section
variable {cell : List Byte}

theorem exec_ringCell_passed (live : s.live) (length : cell.length ≠ 64) :
    exec (.ringCellReceived cell) s = .next s := by
  rw [exec, execRingCellReceived, whenRunning_of_live live, if_pos length]

theorem exec_ringCell_bad (live : s.live) (length : cell.length = 64) (bad : goodCheck cell = false) :
    exec (.ringCellReceived cell) s =
      .next (s.countRing fun c => { c with checkErrors := bump c.checkErrors }) := by
  rw [exec, execRingCellReceived, whenRunning_of_live live, if_neg (not_not_intro length), bad,
    if_neg Bool.false_ne_true]

theorem exec_ringCell_good (live : s.live) (length : cell.length = 64) (good : goodCheck cell = true) :
    exec (.ringCellReceived cell) s = .next (s.goodCell.handleCell cell) := by
  rw [exec, execRingCellReceived, whenRunning_of_live live, if_neg (not_not_intro length), if_pos good]

theorem State.report_transit (s : State) (r : Report) : (s.report r).grp.transit = s.grp.transit := by
  simp only [State.report, Grp.offer]
  (repeat' split) <;> rfl

/-- The ring watch leaves the part's place on the ring, what is in transit and the command queue. -/
theorem State.goodCell_kept (s : State) :
    s.goodCell.grp.position = s.grp.position ∧ s.goodCell.grp.transit = s.grp.transit ∧ s.goodCell.mgu = s.mgu := by
  unfold State.goodCell
  split
  · exact ⟨rfl, rfl, rfl⟩
  · exact ⟨(State.report_straps _ _).1, State.report_transit _ _, rfl⟩

theorem State.handleCell_idle (type : cellType cell = 0x00) : s.handleCell cell = s :=
  if_pos (beq_iff_eq.mpr type)

theorem State.handleCell_mine (type : cellType cell ≠ 0x00) (destination : cellDestination cell = s.grp.position) :
    s.handleCell cell = s.consume cell := by
  rw [State.handleCell, if_neg (by simpa [idleType] using type), if_pos destination]

theorem State.handleCell_back (type : cellType cell ≠ 0x00) (destination : cellDestination cell ≠ s.grp.position)
    (source : cellSource cell = s.grp.position) : s.handleCell cell = s.returned cell := by
  rw [State.handleCell, if_neg (by simpa [idleType] using type), if_neg destination, if_pos source]

theorem State.handleCell_passing (type : cellType cell ≠ 0x00) (destination : cellDestination cell ≠ s.grp.position)
    (source : cellSource cell ≠ s.grp.position) :
    s.handleCell cell =
      if cellHops cell = 0 then s.countRing fun c => { c with hopExpiries := bump c.hopExpiries }
      else s.forward cell := by
  rw [State.handleCell, if_neg (by simpa [idleType] using type), if_neg destination, if_neg source]

theorem State.consume_intake {e : Intake} (entry : intakeOf (cellType cell) (cellPayload cell) = some e) :
    s.consume cell = s.offerIntake e := by
  rw [State.consume, entry]

theorem intakeOf_idle (p : List Byte) : intakeOf 0x00 p = none := rfl

theorem State.consume_verdict (type : cellType cell = 0x02) :
    s.consume cell = s.handVerdict (verdictOf (cellSource cell) (cellPayload cell)) := by
  rw [State.consume, type]
  rfl

theorem State.consume_mgmt (type : cellType cell = 0x06) :
    s.consume cell = { s with mgu := s.mgu.join (mgmtOf (cellSource cell) (cellPayload cell)) } := by
  rw [State.consume, type]
  rfl

theorem State.consume_stray (entry : intakeOf (cellType cell) (cellPayload cell) = none)
    (verdict : cellType cell ≠ verdictType) (mgmt : cellType cell ≠ mgmtType) :
    s.consume cell = s.countRing fun c => { c with strayCells := bump c.strayCells } := by
  rw [State.consume, entry]
  dsimp only
  rw [if_neg (mt beq_iff_eq.mp verdict), if_neg (mt beq_iff_eq.mp mgmt)]

theorem State.returned_claim {t : Tag} {k : Key} {kind : Kind} {time zone : Nat} {classes : BitVec 16}
    (entry : intakeOf (cellType cell) (cellPayload cell) = some (.claim t k kind time zone classes)) :
    s.returned cell = s.claimReturned t k := by
  rw [State.returned, entry]

theorem State.returned_lateUse {part lane time : Nat} {k : Key} {kind : Kind}
    (entry : intakeOf (cellType cell) (cellPayload cell) = some (.lateUse part lane k kind time)) :
    s.returned cell = s.lateUseReturned lane k kind time := by
  rw [State.returned, entry]

/-- Neither a CLAIM nor a LATE_USE: nobody is told (R146). -/
theorem State.returned_other (claim : cellType cell ≠ claimType) (lateUse : cellType cell ≠ lateUseType) :
    s.returned cell = s.countRing fun c => { c with returnedDrops := bump c.returnedDrops } := by
  rw [State.returned, intakeOf, if_neg (mt beq_iff_eq.mp claim)]
  by_cases passed : (cellType cell == passedType) = true
  · rw [if_pos passed]
  by_cases abandon : (cellType cell == abandonType) = true
  · rw [if_neg passed, if_pos abandon]
  · rw [if_neg passed, if_neg abandon, if_neg (mt beq_iff_eq.mp lateUse)]

theorem Mgu.join_of_room {m : Mgu} {c : MgmtCell} (room : m.queue.length < 4) :
    m.join c = { m with queue := m.queue ++ [c] } := if_pos room

theorem Mgu.join_of_full {m : Mgu} {c : MgmtCell} (full : 4 ≤ m.queue.length) :
    m.join c = { m with commandDrops := bump m.commandDrops } := if_neg (Nat.not_lt.mpr full)

theorem State.forward_of_room (room : s.grp.transit.length < 8) :
    s.forward cell = { s with grp := { s.grp with transit := s.grp.transit ++ [forwarded cell] } } := if_pos room

theorem State.forward_of_full (full : 8 ≤ s.grp.transit.length) :
    s.forward cell = s.countRing fun c => { c with transitOverruns := bump c.transitOverruns } :=
  if_neg (Nat.not_lt.mpr full)

end

/-- Settles O38: R144's cases in their order, each by what becomes of the cell in it. -/
theorem ringCellCases : Obligations.RingCellCases := by
  intro s cell live
  refine ⟨exec_ringCell_passed live, fun length => ?_⟩
  intro good destination source type hops payload result up counted watched u
  have cameFrom : cellSource cell = source := cellSource_eq length
  have goesTo : cellDestination cell = destination := cellDestination_eq length
  have hopsLeft : cellHops cell = hops := cellHops_eq length
  obtain ⟨position, transit, mgu⟩ : u.grp.position = s.grp.position ∧ u.grp.transit = s.grp.transit ∧ u.mgu = s.mgu :=
    s.goodCell_kept
  have handled {t : State} (checked : good) (outcome : u.handleCell cell = t) : result t :=
    (exec_ringCell_good live length ((goodCheck_iff length).mpr checked)).trans (congrArg _ outcome)
  have typed {e : Intake} (entry : intakeOf type payload = some e) : cellType cell ≠ 0x00 := by
    intro idle
    rw [show type = 0x00 from idle, intakeOf_idle] at entry
    cases entry
  have mine (here : destination = s.grp.position) : cellDestination cell = u.grp.position :=
    goesTo.trans (here.trans position.symm)
  have notMine (away : destination ≠ s.grp.position) : cellDestination cell ≠ u.grp.position := by
    rwa [goesTo, position]
  have own (back : source = s.grp.position) : cellSource cell = u.grp.position :=
    cameFrom.trans (back.trans position.symm)
  refine ⟨fun bad => ?_, fun checked idle => handled checked (State.handleCell_idle idle),
    fun checked here => ⟨fun e entry => ?_, fun verdict => ?_, fun mgmt room => ?_, fun mgmt full => ?_,
      fun type entry verdict mgmt => ?_⟩,
    fun checked away back => ⟨fun t k kind time zone classes entry => ?_, fun part lane k kind time entry => ?_,
      fun type claim lateUse => ?_⟩,
    fun checked type away foreign => ⟨fun last => ?_, fun more room => ?_, fun more full => ?_⟩⟩
  · exact exec_ringCell_bad live length (Bool.eq_false_iff.mpr (mt (goodCheck_iff length).mp bad))
  · exact handled checked ((State.handleCell_mine (typed entry) (mine here)).trans (State.consume_intake entry))
  · refine handled checked ((State.handleCell_mine ?_ (mine here)).trans ((State.consume_verdict verdict).trans ?_))
    · rw [show cellType cell = 0x02 from verdict]; decide
    · rw [cameFrom]; rfl
  · refine handled checked ((State.handleCell_mine ?_ (mine here)).trans ((State.consume_mgmt mgmt).trans ?_))
    · rw [show cellType cell = 0x06 from mgmt]; decide
    · rw [Mgu.join_of_room (by rwa [mgu]), cameFrom]; rfl
  · refine handled checked ((State.handleCell_mine ?_ (mine here)).trans ((State.consume_mgmt mgmt).trans ?_))
    · rw [show cellType cell = 0x06 from mgmt]; decide
    · rw [Mgu.join_of_full (by rwa [mgu])]; rfl
  · exact handled checked ((State.handleCell_mine type (mine here)).trans (State.consume_stray entry verdict mgmt))
  · exact handled checked
      ((State.handleCell_back (typed entry) (notMine away) (own back)).trans (State.returned_claim entry))
  · exact handled checked
      ((State.handleCell_back (typed entry) (notMine away) (own back)).trans (State.returned_lateUse entry))
  · exact handled checked
      ((State.handleCell_back type (notMine away) (own back)).trans (State.returned_other claim lateUse))
  all_goals
    have passing := State.handleCell_passing (s := u) type (notMine away) (by rwa [cameFrom, position])
    rw [hopsLeft] at passing
  · exact handled checked (passing.trans (if_pos last))
  · refine handled checked (passing.trans ((if_neg more.ne').trans ?_))
    exact State.forward_of_room (by rwa [transit])
  · refine handled checked (passing.trans ((if_neg more.ne').trans ?_))
    exact State.forward_of_full (by rwa [transit])

/-! ### The ring watch and the output -/

/-- Settles O39: R150's fall of the ring, and R130 for every REMOTE claim. -/
theorem ringDownTimeout : Obligations.RingDownTimeout := by
  intro s live
  refine ⟨fun down => ?_, fun up => ?_⟩
  · simp only [exec, execRingDownTimeout, whenRunning_of_live live, down]
    rfl
  · simp only [exec, execRingDownTimeout, whenRunning_of_live live, up, laneNos_eq]
    rfl

/-- Settles O40: the arbiter of R149 by what waits and which queue it prefers. -/
theorem outputArbiter : Obligations.OutputArbiter := by
  intro s live g sends
  have sent {x : Grp} (choice : g.sendNext = x) : sends x := by
    simp only [sends, exec, execOutputCellEnd, whenRunning_of_live live, ← choice]
    rfl
  refine ⟨fun t ts transit turn => sent ?_, fun c cs own turn => sent ?_, fun transit own => sent ?_⟩
  · cases own : g.localQueue with
    | nil => simp only [Grp.sendNext, transit, own, withCheck]
    | cons c cs =>
      obtain empty | prefers := turn
      · cases own.symm.trans empty
      · simp only [Grp.sendNext, transit, own, prefers, withCheck]
  · cases transit : g.transit with
    | nil => simp only [Grp.sendNext, transit, own]
    | cons t ts =>
      obtain empty | prefers := turn
      · cases transit.symm.trans empty
      · simp only [Grp.sendNext, transit, own, prefers]
  · simp only [Grp.sendNext, transit, own]
    rfl

end

end Sys2Proof.Machine
end

section
/-! SUPPORT. The bytes of cells written and read back (chapter 11): the fields of a payload piece by piece, and the
cells of the ring. -/

namespace Sys2Proof.Machine

/-! ### Fields read behind other pieces -/

section
variable {a t : List Byte} {b : Byte} {off len n : Nat}

theorem keyAt_pass (le : a.length ≤ off) : keyAt (a ++ t) off = keyAt t (off - a.length) := by
  rw [keyAt, byteAt_pass _ _ _ le, natAt_pass _ _ _ _ (by omega), natAt_pass _ _ _ _ (by omega),
    Nat.sub_add_comm le, Nat.sub_add_comm le, keyAt]

theorem timeAt_pass (le : a.length ≤ off) : timeAt (a ++ t) off = timeAt t (off - a.length) := by
  rw [timeAt, natAt_pass _ _ _ _ le, timeAt]

theorem imageAt_pass (le : a.length ≤ off) : imageAt (a ++ t) off = imageAt t (off - a.length) := by
  have past (k : Nat) : a.length ≤ off + k := le.trans (Nat.le_add_right _ _)
  simp only [imageAt, keyAt_pass le, byteAt_pass _ _ _ (past _), natAt_pass _ _ _ _ (past _), Nat.sub_add_comm le]

theorem natAt_skip : natAt (b :: t) (off + 1) len = natAt t off len :=
  natAt_pass [b] t (off + 1) len (Nat.le_add_left 1 off)

theorem timeAt_skip : timeAt (b :: t) (off + 1) = timeAt t off :=
  timeAt_pass (a := [b]) (t := t) (off := off + 1) (Nat.le_add_left 1 off)

theorem natAt_beBytes_of_lt {k : Nat} (lt : n < 256 ^ k) : natAt (beBytes k n ++ t) 0 k = n := by
  rw [natAt_beBytes, Nat.mod_eq_of_lt lt]

end

/-! ### Keys, tags, times and images read back -/

section
variable {t : List Byte}

@[simp] theorem Key.bytes_length (k : Key) : k.bytes.length = 10 := by simp [Key.bytes]
@[simp] theorem Tag.bytes_length (x : Tag) : x.bytes.length = 3 := by simp [Tag.bytes]
@[simp] theorem timeBytes_length (n : Nat) : (timeBytes n).length = 4 := beBytes_length 4 n
@[simp] theorem classBytes_length (c : BitVec 16) : (classBytes c).length = 2 := beBytes_length 2 _
@[simp] theorem Image.bytes_length (im : Image) : im.bytes.length = 17 := by simp [Image.bytes]

theorem keyAt_bytes {k : Key} (fits : k.fits) : keyAt (k.bytes ++ t) 0 = k := by
  obtain ⟨length, value⟩ := fits
  simp only [keyAt, Key.bytes, List.cons_append, List.append_assoc, byteAt_here, natAt_skip]
  rw [natAt_beBytes_of_lt (by simpa using length), natAt_pass _ _ _ _ (by simp)]
  rw [beBytes_length, natAt_beBytes_of_lt (by simpa using value)]

theorem tagAt_bytes {x : Tag} (fits : x.fits) : tagAt (x.bytes ++ t) 0 = x := by
  obtain ⟨part, lane, seq⟩ := fits
  simp (disch := simp) [tagAt, Tag.bytes, natAt_pass, natAt_beBytes, Nat.mod_eq_of_lt part, Nat.mod_eq_of_lt lane,
    Nat.mod_eq_of_lt seq]

theorem timeAt_bytes {n : Nat} (le : n ≤ 1048575) : timeAt (timeBytes n ++ t) 0 = n := by
  rw [timeAt, timeBytes, natAt_beBytes_of_lt (by omega)]
  exact min_eq_left le

theorem imageAt_bytes {im : Image} (fits : im.fits) : imageAt (im.bytes ++ t) 0 = im := by
  obtain ⟨key, cls, allowance, cooldown, openMinute, closeMinute⟩ := fits
  have nibbles : (im.static.cls * 16 + im.static.allowance) % 256 = im.static.cls * 16 + im.static.allowance :=
    Nat.mod_eq_of_lt (by omega)
  simp (disch := simp) only [imageAt, Image.bytes, List.append_assoc, List.cons_append, List.nil_append,
    keyAt_bytes key, natAt_pass, byteAt_pass, byteAt_here, natAt_beBytes, Key.bytes_length, beBytes_length,
    Nat.zero_add, Nat.reduceSub, natAt_skip, Nat.reducePow, nibbles]
  have high : (im.static.cls * 16 + im.static.allowance) / 16 = im.static.cls := by omega
  have low : (im.static.cls * 16 + im.static.allowance) % 16 = im.static.allowance := by omega
  have opens : im.static.openMinute % 65536 % 16384 = im.static.openMinute := by omega
  have closes : im.static.closeMinute % 65536 % 16384 = im.static.closeMinute := by omega
  rw [high, low, opens, closes, Nat.mod_eq_of_lt cooldown]

theorem classes_read (c : BitVec 16) : BitVec.ofNat 16 (natAt (classBytes c ++ t) 0 2) = c := by
  rw [classBytes, natAt_beBytes_of_lt c.isLt, BitVec.ofNat_toNat, BitVec.setWidth_eq]

theorem Kind.ofByte_code (k : Kind) : Kind.ofByte k.code = k := by cases k <;> rfl

theorem Verdict.ofCode_code (v : Verdict) : Verdict.ofCode v.code = some v := by cases v <;> rfl

/-! ### The cells of the ring -/

theorem crcBytes_length (bytes : List Byte) : (crcBytes bytes).length = 2 := beBytes_length 2 _

theorem padPayload_length (bytes : List Byte) : (padPayload bytes).length = 56 := by simp [padPayload]

theorem headerAndPayload_length (d p : Nat) (type : Byte) (payload : List Byte) :
    (headerAndPayload d p type payload).length = 62 := by simp [headerAndPayload, padPayload_length]

/-- A payload that fits is followed by zeros (R176). -/
theorem padPayload_eq {bytes : List Byte} (fits : bytes.length ≤ 56) :
    padPayload bytes = bytes ++ List.replicate (56 - bytes.length) 0 := by
  rw [padPayload, List.take_append, List.take_of_length_le fits, List.take_replicate]
  congr 2
  omega

/-- A body of 62 bytes with its check is a good cell (section 11.2). -/
theorem withCheck_good {body : List Byte} (length : body.length = 62) :
    (withCheck body).length = 64 ∧ goodCheck (withCheck body) = true := by
  have whole : (withCheck body).length = 64 := by simp [withCheck, length, crcBytes_length]
  refine ⟨whole, (goodCheck_iff whole).mpr ?_⟩
  rw [withCheck, List.take_left' length, List.drop_left' length]

/-- The header and the payload of a cell stand before its check. -/
theorem withCheck_reads {body : List Byte} (length : body.length = 62) :
    cellDestination (withCheck body) = cellDestination body ∧ cellSource (withCheck body) = cellSource body ∧
      cellType (withCheck body) = cellType body ∧ cellHops (withCheck body) = cellHops body ∧
      cellPayload (withCheck body) = body.drop 6 := by
  have byte (i : Nat) (lt : i < 62) : byteAt (withCheck body) i = byteAt body i := by
    simp [byteAt, withCheck, List.getElem?_append_left (length ▸ lt : i < body.length)]
  have number (i : Nat) (lt : i < 62) : natAt (withCheck body) i 1 = natAt body i 1 := by
    rw [natAt_one _ _ ((withCheck_good length).1 ▸ lt.trans (by decide)), natAt_one _ _ (length ▸ lt), byte i lt]
  refine ⟨congrArg (· % 16) (number 0 (by decide)), congrArg (· % 16) (number 1 (by decide)), byte 2 (by decide),
    congrArg (· % 16) (number 3 (by decide)), ?_⟩
  rw [cellPayload, slice, withCheck, List.drop_append_of_le_length (by omega),
    List.take_left' (by rw [List.length_drop, length])]

theorem LocalCell.wire_reads (c : LocalCell) {p : Nat} (lt : p < 16) :
    (c.wire p).length = 64 ∧ goodCheck (c.wire p) = true ∧ cellDestination (c.wire p) = c.destination % 16 ∧
      cellSource (c.wire p) = p ∧ cellType (c.wire p) = c.body.type ∧ cellHops (c.wire p) = 15 := by
  have length := headerAndPayload_length c.destination p c.body.type c.body.bytes
  obtain ⟨whole, good⟩ := withCheck_good length
  obtain ⟨destination, source, type, hops, -⟩ := withCheck_reads length
  refine ⟨whole, good, destination.trans ?_, source.trans ?_, type, hops⟩
  · rw [cellDestination, natAt_one _ _ (by omega)]
    simp [headerAndPayload, byteAt]
  · rw [cellSource, natAt_one _ _ (by omega)]
    simp [headerAndPayload, byteAt]
    omega

theorem LocalCell.wire_payload (c : LocalCell) (p : Nat) : cellPayload (c.wire p) = padPayload c.body.bytes := by
  obtain ⟨-, -, -, -, payload⟩ := withCheck_reads (headerAndPayload_length c.destination p c.body.type c.body.bytes)
  exact payload

theorem Intake.bytes_length_le (e : Intake) : e.bytes.length ≤ 56 := by
  cases e <;> simp [Intake.bytes]

/-- An entry is read back from its payload, whatever stands behind it. -/
theorem intakeOf_bytes {e : Intake} (fits : e.fits) (spare : List Byte) :
    intakeOf (CellBody.intake e).type (e.bytes ++ spare) = some e := by
  cases e with
  | claim t k kind time zone classes =>
    obtain ⟨tag, key, inTime, zoneFits⟩ := fits
    change some (Intake.claim _ _ _ _ _ _) = _
    simp (disch := simp) only [Intake.bytes, List.append_assoc, List.cons_append, List.nil_append, tagAt_bytes tag,
      keyAt_pass, keyAt_bytes key, byteAt_pass, byteAt_here, Kind.ofByte_code, timeAt_pass, timeAt_skip,
      timeAt_bytes inTime, natAt_pass, natAt_skip, natAt_beBytes, classes_read, Tag.bytes_length, Key.bytes_length,
      timeBytes_length, beBytes_length, Nat.reduceSub, Nat.reducePow, Nat.mod_eq_of_lt zoneFits]
  | passed t k kind time =>
    obtain ⟨tag, key, inTime⟩ := fits
    change some (Intake.passed _ _ _ _) = _
    simp (disch := simp) only [Intake.bytes, List.append_assoc, List.cons_append, List.nil_append, tagAt_bytes tag,
      keyAt_pass, keyAt_bytes key, byteAt_pass, byteAt_here, Kind.ofByte_code, timeAt_pass, timeAt_skip,
      timeAt_bytes inTime, Tag.bytes_length, Key.bytes_length, Nat.reduceSub]
  | abandon t k =>
    obtain ⟨tag, key⟩ := fits
    change some (Intake.abandon _ _) = _
    simp (disch := simp) only [Intake.bytes, List.append_assoc, tagAt_bytes tag, keyAt_pass, keyAt_bytes key,
      Tag.bytes_length, Nat.reduceSub]
  | lateUse part lane k kind time =>
    obtain ⟨partFits, laneFits, key, inTime⟩ := fits
    change some (Intake.lateUse _ _ _ _ _) = _
    simp (disch := simp) only [Intake.bytes, List.append_assoc, List.cons_append, List.nil_append, keyAt_pass,
      keyAt_bytes key, byteAt_pass, byteAt_here, Kind.ofByte_code, timeAt_pass, timeAt_skip, timeAt_bytes inTime,
      natAt_pass, natAt_beBytes, Key.bytes_length, beBytes_length, Nat.reduceSub, Nat.reducePow,
      Nat.mod_eq_of_lt partFits, Nat.mod_eq_of_lt laneFits]

/-- A verdict is read back from its payload, whatever stands behind it. -/
theorem verdictOf_bytes {t : Tag} {k : Key} {argument : Nat} (tag : t.fits) (key : k.fits) (lt : argument < 256)
    (source : Nat) (name : Verdict) (spare : List Byte) :
    verdictOf source ((CellBody.verdict t k name argument).bytes ++ spare) =
      ⟨some source, t, k, some name, argument⟩ := by
  simp (disch := simp) only [verdictOf, CellBody.bytes, List.append_assoc, List.cons_append, List.nil_append,
    tagAt_bytes tag, keyAt_pass, keyAt_bytes key, byteAt_pass, byteAt_here, Verdict.ofCode_code, natAt_pass,
    natAt_skip, natAt_beBytes, Tag.bytes_length, Key.bytes_length, Nat.reduceSub, Nat.reducePow, Nat.mod_eq_of_lt lt]

theorem forwarded_length {cell : List Byte} (length : cell.length = 64) : (forwarded cell).length = 62 := by
  simp [forwarded, length]

theorem byteAt_forwarded (cell : List Byte) {i : Nat} (lt : i < 62) (other : i ≠ 3) :
    byteAt (forwarded cell) i = byteAt cell i := by
  simp [byteAt, forwarded, List.getElem?_set_ne other.symm, List.getElem?_take_of_lt lt]

theorem byteAt_forwarded_hops {cell : List Byte} (length : cell.length = 64) :
    byteAt (forwarded cell) 3 = byteAt cell 3 - 1 := by
  simp [byteAt, forwarded, length]

/-- Settles O41: what stands before a cell's check is read back piece by piece. -/
theorem ringCellRoundTrip : Obligations.RingCellRoundTrip := by
  refine ⟨?_, ?_⟩
  · intro c p lt w
    obtain ⟨whole, good, destination, source, type, hops⟩ := c.wire_reads lt
    refine ⟨whole, good, destination, source, type, hops, fun e body fits => ?_,
      fun t k name argument body tag key argumentFits => ?_⟩
    · rw [type, c.wire_payload, body, CellBody.bytes, padPayload_eq e.bytes_length_le]
      exact intakeOf_bytes fits _
    · rw [source, c.wire_payload, body, padPayload_eq (by simp [CellBody.bytes])]
      exact verdictOf_bytes tag key argumentFits p name _
  · intro cell length more w
    obtain ⟨whole, good⟩ := withCheck_good (forwarded_length length)
    obtain ⟨destination, source, type, hops, payload⟩ := withCheck_reads (forwarded_length length)
    have number {i : Nat} (lt : i < 62) (other : i ≠ 3) : natAt (forwarded cell) i 1 = natAt cell i 1 := by
      rw [natAt_one _ _ (forwarded_length length ▸ lt), natAt_one _ _ (by omega), byteAt_forwarded cell lt other]
    refine ⟨whole, good, destination.trans ?_, source.trans ?_, type.trans ?_, payload.trans ?_, hops.trans ?_⟩
    · exact congrArg (· % 16) (number (by decide) (by decide))
    · exact congrArg (· % 16) (number (by decide) (by decide))
    · exact byteAt_forwarded cell (by decide) (by decide)
    · rw [forwarded, List.drop_set_of_lt (by decide), List.drop_take, cellPayload, slice]
    · rw [cellHops, natAt_one _ _ (by rw [forwarded_length length]; decide), byteAt_forwarded_hops length]
      rw [cellHops, natAt_one _ _ (by omega)] at more ⊢
      bv_omega

end

end Sys2Proof.Machine
end

section
/-! SUPPORT. The cells of the station (sections 10.1 and 11.2): commands read back from the bytes the station wrote, and
the fields of replies and reports where chapter 11 puts them. -/

namespace Sys2Proof.Machine

/-! ### Commands read back -/

theorem mgmtOf_cons (source : Nat) (code request : Byte) (a : List Byte) :
    mgmtOf source (code :: request :: a) = ⟨source, request, commandOf code a⟩ := rfl

theorem commandOf_unknown {code : Byte} (a : List Byte) (unnamed : code.toNat = 0 ∨ 0x15 < code.toNat) :
    commandOf code a = .unknown code := by
  unfold commandOf
  split
  case h_22 => rfl
  all_goals omega

/-- A flag's byte is 00H exactly when the flag is not set. -/
theorem flag_read {set : Byte} (nonzero : set ≠ 0) (flag : Bool) : ((if flag then set else 0) != 0) = flag := by
  cases flag with
  | false => rfl
  | true => exact bne_iff_ne.mpr nonzero

theorem natAt_one_of_lt {n : Nat} (t : List Byte) (lt : n < 256) : natAt (beBytes 1 n ++ t) 0 1 = n :=
  natAt_beBytes_of_lt (by simpa using lt)

/-- A command is read back from its code and its arguments, whatever stands behind them. -/
theorem commandOf_arguments {c : Command} {set : Byte} (fits : c.fits) (nonzero : set ≠ 0) (spare : List Byte) :
    commandOf c.code (c.arguments set ++ spare) = c := by
  cases c with
  | putRecord im => exact congrArg Command.putRecord (imageAt_bytes fits)
  | loadOpen count => exact congrArg Command.loadOpen (natAt_beBytes_of_lt fits)
  | loadRecords count first second =>
    obtain ⟨countFits, firstFits, secondFits⟩ := fits
    change Command.loadRecords _ _ _ = _
    simp (disch := simp) only [Command.arguments, List.append_assoc, natAt_one_of_lt _ countFits, imageAt_pass,
      imageAt_bytes firstFits, imageAt_bytes secondFits, beBytes_length, Image.bytes_length, Nat.reduceSub]
  | voidKey k => exact congrArg Command.voidKey (keyAt_bytes fits)
  | restoreKey k => exact congrArg Command.restoreKey (keyAt_bytes fits)
  | dropKey k => exact congrArg Command.dropKey (keyAt_bytes fits)
  | queryKey k => exact congrArg Command.queryKey (keyAt_bytes fits)
  | setLane lane fitted direction zone classes priority passWindow echoWindow staleLimit policy =>
    obtain ⟨laneFits, zoneFits, passFits, echoFits, staleFits⟩ := fits
    change Command.setLane _ _ _ _ _ _ _ _ _ _ = _
    simp (disch := simp) only [Command.arguments, List.append_assoc, List.cons_append, List.nil_append,
      natAt_one_of_lt _ laneFits, natAt_pass, byteAt_pass, byteAt_here, byteAt_skip, natAt_skip, beBytes_length,
      Nat.reduceSub, natAt_one_of_lt _ zoneFits, natAt_beBytes_of_lt (k := 2) classes.isLt, natAt_one_of_lt _ passFits,
      natAt_one_of_lt _ echoFits, natAt_one_of_lt _ staleFits, BitVec.ofNat_toNat, BitVec.setWidth_eq]
  | laneOpen lane => exact congrArg Command.laneOpen (natAt_one_of_lt _ fits)
  | laneClose lane => exact congrArg Command.laneClose (natAt_one_of_lt _ fits)
  | laneReset lane => exact congrArg Command.laneReset (natAt_one_of_lt _ fits)
  | laneRelease lane => exact congrArg Command.laneRelease (natAt_one_of_lt _ fits)
  | readLane lane clear =>
    change Command.readLane _ _ = _
    simp (disch := simp) only [Command.arguments, List.append_assoc, List.cons_append, natAt_one_of_lt _ fits,
      byteAt_pass, byteAt_here, beBytes_length, Nat.reduceSub, flag_read nonzero]
  | setZone zone quota =>
    obtain ⟨zoneFits, quotaFits⟩ := fits
    change Command.setZone _ _ = _
    simp (disch := simp) only [Command.arguments, List.append_assoc, natAt_one_of_lt _ zoneFits, natAt_pass,
      beBytes_length, Nat.reduceSub, natAt_beBytes_of_lt (k := 2) quotaFits]
  | readZone zone clear =>
    change Command.readZone _ _ = _
    simp (disch := simp) only [Command.arguments, List.append_assoc, List.cons_append, natAt_one_of_lt _ fits,
      byteAt_pass, byteAt_here, beBytes_length, Nat.reduceSub, flag_read nonzero]
  | setClock second => exact congrArg Command.setClock (natAt_beBytes_of_lt fits)
  | setGate claimTimeout holdLimit mask =>
    obtain ⟨timeoutFits, limitFits⟩ := fits
    change Command.setGate _ _ _ = _
    simp (disch := simp) only [Command.arguments, List.append_assoc, List.cons_append, natAt_beBytes_of_lt (k := 2) timeoutFits,
      natAt_pass, byteAt_pass, byteAt_here, beBytes_length, Nat.reduceSub, natAt_one_of_lt _ limitFits]
  | readGate clear => exact congrArg Command.readGate (flag_read nonzero clear)
  | loadAbort => rfl
  | emergencyClear => rfl
  | gateClear => rfl
  | unknown code => exact commandOf_unknown _ fits

/-! ### Fields where chapter 11 puts them

`…_pass` finds a field behind a piece that ends before it, `…_here` at the head of the piece written for it. -/

@[simp] theorem optTimeBytes_length (t : Option Nat) : (optTimeBytes t).length = 4 := by
  cases t <;> simp [optTimeBytes]

@[simp] theorem optKeyBytes_length (k : Option Key) : (optKeyBytes k).length = 11 := by
  cases k <;> simp [optKeyBytes]

@[simp] theorem optTagBytes_length (t : Option Tag) : (optTagBytes t).length = 4 := by
  cases t <;> simp [optTagBytes]

@[simp] theorem UseOrigin.bytes_length (o : UseOrigin) : o.bytes.length = 4 := by
  cases o <;> simp [UseOrigin.bytes]

section
variable {a t : List Byte} {b : Byte} {off len n : Nat}

theorem byteAt_before (lt : off < a.length) : byteAt (a ++ t) off = byteAt a off := by
  simp [byteAt, List.getElem?_append_left lt]

theorem numberAt_here (k n : Nat) (t : List Byte) : numberAt (beBytes k n ++ t) 0 k n :=
  natAt_beBytes k n t

theorem numberAt_pass (le : a.length ≤ off) : numberAt (a ++ t) off len n ↔ numberAt t (off - a.length) len n := by
  rw [numberAt, natAt_pass _ _ _ _ le, numberAt]

theorem numberAt_skip : numberAt (b :: t) (off + 1) len n ↔ numberAt t off len n :=
  numberAt_pass (a := [b]) (Nat.le_add_left 1 off)

theorem zeroAt_here (n : Nat) (t : List Byte) : zeroAt (List.replicate n 0 ++ t) 0 n := by
  intro i lt
  simp [byteAt, List.getElem?_append_left, lt]

theorem zeroAt_pass (le : a.length ≤ off) : zeroAt (a ++ t) off len ↔ zeroAt t (off - a.length) len := by
  simp only [zeroAt, byteAt_pass _ _ _ (le.trans (Nat.le_add_right _ _)), Nat.sub_add_comm le]

theorem flagStands_here (x : Bool) (t : List Byte) : flagStands ([yesNo x] ++ t) 0 x := rfl

theorem flagStands_pass {x : Bool} (le : a.length ≤ off) :
    flagStands (a ++ t) off x ↔ flagStands t (off - a.length) x := by
  rw [flagStands, byteAt_pass _ _ _ le, flagStands]

theorem keyStands_pass {k : Key} (le : a.length ≤ off) :
    keyStands (a ++ t) off k ↔ keyStands t (off - a.length) k := by
  simp only [keyStands, byteAt_pass _ _ _ le, numberAt_pass (le.trans (Nat.le_add_right _ _)), Nat.sub_add_comm le]

theorem keyStands_skip {k : Key} : keyStands (b :: t) (off + 1) k ↔ keyStands t off k :=
  keyStands_pass (a := [b]) (Nat.le_add_left 1 off)

theorem keyStands_here (k : Key) (t : List Byte) : keyStands (k.bytes ++ t) 0 k := by
  refine ⟨rfl, ?_, ?_⟩
  · simp (disch := simp) [Key.bytes, numberAt_skip, numberAt_here]
  · simp (disch := simp) [Key.bytes, numberAt_skip, numberAt_pass, numberAt_here]

theorem optKeyStands_pass {k : Option Key} (le : a.length ≤ off) :
    optKeyStands (a ++ t) off k ↔ optKeyStands t (off - a.length) k := by
  cases k with
  | none => exact zeroAt_pass le
  | some k =>
    simp only [optKeyStands, byteAt_pass _ _ _ le, keyStands_pass (le.trans (Nat.le_add_right _ _)),
      Nat.sub_add_comm le]

theorem optKeyStands_here (k : Option Key) (t : List Byte) : optKeyStands (optKeyBytes k ++ t) 0 k := by
  cases k with
  | none => exact zeroAt_here 11 t
  | some k => exact ⟨rfl, keyStands_skip.mpr (keyStands_here k t)⟩

theorem tagStands_pass {x : Tag} (le : a.length ≤ off) :
    tagStands (a ++ t) off x ↔ tagStands t (off - a.length) x := by
  simp only [tagStands, numberAt_pass le, numberAt_pass (le.trans (Nat.le_add_right _ _)), Nat.sub_add_comm le]

theorem tagStands_skip {x : Tag} : tagStands (b :: t) (off + 1) x ↔ tagStands t off x :=
  tagStands_pass (a := [b]) (Nat.le_add_left 1 off)

theorem tagStands_here (x : Tag) (t : List Byte) : tagStands (x.bytes ++ t) 0 x := by
  simp (disch := simp) [tagStands, Tag.bytes, numberAt_pass, numberAt_here]

theorem optTagStands_pass {x : Option Tag} (le : a.length ≤ off) :
    optTagStands (a ++ t) off x ↔ optTagStands t (off - a.length) x := by
  cases x with
  | none => exact zeroAt_pass le
  | some x =>
    simp only [optTagStands, byteAt_pass _ _ _ le, tagStands_pass (le.trans (Nat.le_add_right _ _)),
      Nat.sub_add_comm le]

theorem optTagStands_here (x : Option Tag) (t : List Byte) : optTagStands (optTagBytes x ++ t) 0 x := by
  cases x with
  | none => exact zeroAt_here 4 t
  | some x => exact ⟨rfl, tagStands_skip.mpr (tagStands_here x t)⟩

theorem originStands_pass {o : UseOrigin} (le : a.length ≤ off) :
    originStands (a ++ t) off o ↔ originStands t (off - a.length) o := by
  cases o <;>
    simp only [originStands, byteAt_pass _ _ _ le, tagStands_pass (le.trans (Nat.le_add_right _ _)),
      Nat.sub_add_comm le]

theorem originStands_here (o : UseOrigin) (t : List Byte) : originStands (o.bytes ++ t) 0 o := by
  cases o with
  | tag x => exact ⟨rfl, tagStands_skip.mpr (tagStands_here x t)⟩
  | lane part lane => exact ⟨rfl, tagStands_skip.mpr (tagStands_here ⟨part, lane, 0⟩ t)⟩

theorem timeStands_pass {x : Option Nat} (le : a.length ≤ off) :
    timeStands (a ++ t) off x ↔ timeStands t (off - a.length) x := numberAt_pass le

theorem timeStands_here (x : Option Nat) (t : List Byte) : timeStands (optTimeBytes x ++ t) 0 x := by
  cases x with
  | none => exact numberAt_here 4 0xFFFFFFFF t
  | some n => exact numberAt_here 4 n t

theorem timeStands_some (n : Nat) (t : List Byte) : timeStands (timeBytes n ++ t) 0 (some n) :=
  timeStands_here (some n) t

theorem imageStands_pass {k : Key} {r : StaticFields} (le : a.length ≤ off) :
    imageStands (a ++ t) off k r ↔ imageStands t (off - a.length) k r := by
  have past (i : Nat) : a.length ≤ off + i := le.trans (Nat.le_add_right _ _)
  simp only [imageStands, keyStands_pass le, numberAt_pass (past _), byteAt_pass _ _ _ (past _), Nat.sub_add_comm le]

theorem imageStands_here (k : Key) (r : StaticFields) (t : List Byte) :
    imageStands (Image.bytes ⟨k, r⟩ ++ t) 0 k r := by
  simp (disch := simp) only [imageStands, Image.bytes, List.append_assoc, keyStands_here, numberAt_pass, numberAt_here,
    byteAt_pass, byteAt_before, byteAt_here, Key.bytes_length, beBytes_length, List.length_singleton, Nat.zero_add,
    Nat.reduceSub, and_self]

/-- The flags of a mask in the bits of its byte. -/
theorem Mask.bit_toByte (m : Mask) (i : Nat) (lt : i < 8) :
    m.toByte.getLsbD i = [m.passage, m.forced, m.provisional].getD i false := by
  obtain ⟨passage, forced, provisional⟩ := m
  revert passage forced provisional i
  decide

/-- The four conditions in the bits of READ_GATE's byte. -/
theorem bit_conditionByte (fault up latched input : Bool) (i : Nat) (lt : i < 8) :
    (conditionByte fault up latched input).getLsbD i = [fault, up, latched, input].getD i false := by
  revert fault up latched input i
  decide

theorem settingsStand_pass {g : Settings} (le : a.length ≤ off) :
    settingsStand (a ++ t) off g ↔ settingsStand t (off - a.length) g := by
  have past (i : Nat) : a.length ≤ off + i := le.trans (Nat.le_add_right _ _)
  simp only [settingsStand, numberAt_pass le, numberAt_pass (past _), byteAt_pass _ _ _ (past _), Nat.sub_add_comm le]

theorem settingsStand_here (g : Settings) (t : List Byte) : settingsStand (g.bytes ++ t) 0 g := by
  simp (disch := simp) only [settingsStand, Settings.bytes, List.append_assoc, List.singleton_append, numberAt_pass,
    numberAt_here, byteAt_pass, byteAt_here, beBytes_length, Nat.zero_add, Nat.reduceSub, true_and]
  exact g.mask.bit_toByte

end

/-! ### Reports and replies -/

theorem rejection_stands (first : Option (Status × Key)) (t : List Byte) :
    (∀ st k, first = some (st, k) → byteAt (rejectionBytes first ++ t) 0 = 1 ∧
      byteAt (rejectionBytes first ++ t) 1 = st.code ∧ keyStands (rejectionBytes first ++ t) 2 k) ∧
    (first = none → zeroAt (rejectionBytes first ++ t) 0 12) := by
  refine ⟨?_, ?_⟩
  · rintro st k rfl
    exact ⟨rfl, rfl, keyStands_skip.mpr (keyStands_skip.mpr (keyStands_here k t))⟩
  · rintro rfl
    exact zeroAt_here 12 t

theorem rejectionBytes_length (first : Option (Status × Key)) : (rejectionBytes first).length = 12 := by
  cases first <;> simp [rejectionBytes]

/-- The contents of a report stand behind its kind and its time. -/
theorem Report.standsIn_bytes (r : Report) {header : List Byte} (length : header.length = 5) (spare : List Byte) :
    r.standsIn (header ++ (r.bytes ++ spare)) := by
  cases r with
  | passage lane direction zone origin key tag time =>
    simp (disch := simp [length]) only [Report.standsIn, Report.bytes, List.append_assoc, numberAt_pass, numberAt_here,
      byteAt_pass, byteAt_before, byteAt_here, optKeyStands_pass, optKeyStands_here, optTagStands_pass,
      optTagStands_here, timeStands_pass, timeStands_some, length, beBytes_length, List.length_singleton,
      optKeyBytes_length, optTagBytes_length, Nat.reduceSub, and_self]
  | forced lane state time =>
    simp (disch := simp [length]) only [Report.standsIn, Report.bytes, List.append_assoc, numberAt_pass, numberAt_here,
      byteAt_pass, byteAt_before, byteAt_here, timeStands_pass, timeStands_here, length, beBytes_length,
      List.length_singleton, Nat.reduceSub, and_self]
  | provisional lane direction zone key time =>
    simp (disch := simp [length]) only [Report.standsIn, Report.bytes, List.append_assoc, numberAt_pass, numberAt_here,
      byteAt_pass, byteAt_before, byteAt_here, keyStands_pass, keyStands_here, timeStands_pass, timeStands_some, length,
      beBytes_length, List.length_singleton, Key.bytes_length, Nat.reduceSub, and_self]
  | loadDone taken rejected excess first aborted =>
    simp (disch := simp [length, rejectionBytes_length]) only [Report.standsIn, Report.bytes, List.append_assoc,
      numberAt_pass, numberAt_here, byteAt_pass, keyStands_pass, zeroAt_pass, flagStands_pass, flagStands_here,
      length, beBytes_length, rejectionBytes_length, Nat.reduceSub, true_and, and_true]
    exact rejection_stands first _
  | holdLapsed tag key kind cause use =>
    simp (disch := simp [length]) only [Report.standsIn, Report.bytes, List.append_assoc, tagStands_pass,
      tagStands_here, keyStands_pass, keyStands_here, byteAt_pass, byteAt_before, byteAt_here, byteAt_skip, length,
      Tag.bytes_length, Key.bytes_length, Nat.reduceSub, and_self]
  | duplicate key occasion time origin =>
    simp (disch := simp [length]) only [Report.standsIn, Report.bytes, List.append_assoc, keyStands_pass,
      keyStands_here, byteAt_pass, byteAt_before, byteAt_here, timeStands_pass, timeStands_some, originStands_pass,
      originStands_here, length, List.length_singleton, timeBytes_length, Key.bytes_length, Nat.reduceSub, and_self]
  | unknownUse key kind time origin =>
    simp (disch := simp [length]) only [Report.standsIn, Report.bytes, List.append_assoc, keyStands_pass,
      keyStands_here, byteAt_pass, byteAt_before, byteAt_here, timeStands_pass, timeStands_some, originStands_pass,
      originStands_here, length, List.length_singleton, timeBytes_length, Key.bytes_length, Nat.reduceSub, and_self]
  | fault lane left =>
    simp (disch := simp [length]) only [Report.standsIn, Report.bytes, List.append_assoc, numberAt_pass, numberAt_here,
      byteAt_pass, byteAt_before, byteAt_here, length, beBytes_length, Nat.reduceSub, and_self]
  | recovered lane entered =>
    simp (disch := simp [length]) only [Report.standsIn, Report.bytes, List.append_assoc, numberAt_pass, numberAt_here,
      byteAt_pass, byteAt_before, byteAt_here, length, beBytes_length, Nat.reduceSub, and_self]
  | emergency cause =>
    rw [Report.standsIn, byteAt_pass _ _ _ length.le, length]
    rfl
  | emergencyCleared seconds =>
    rw [Report.standsIn, numberAt_pass length.le, length]
    exact numberAt_here 2 seconds spare
  | ringUp seconds downs =>
    simp (disch := simp [length]) only [Report.standsIn, Report.bytes, List.append_assoc, numberAt_pass, numberAt_here,
      length, beBytes_length, Nat.reduceSub, and_self]
  | ringDown downs =>
    rw [Report.standsIn, numberAt_pass length.le, length]
    exact numberAt_here 2 downs spare

theorem Report.bytes_length_le (r : Report) : r.bytes.length ≤ 51 := by
  cases r <;> simp [Report.bytes, rejectionBytes_length]

theorem LaneConfig.bytes_length (c : LaneConfig) : c.bytes.length = 10 := by simp [LaneConfig.bytes]

theorem lastBytes_length (last : Option LastDisposition) : (lastBytes last).length = 18 := by
  cases last <;> simp [lastBytes]

theorem LaneCounters.bytes_length (c : LaneCounters) : c.bytes.length = 12 := by simp [LaneCounters.bytes]

theorem last_stands (last : Option LastDisposition) (t : List Byte) :
    (∀ d, last = some d → byteAt (lastBytes last) 0 = 1 ∧ byteAt (lastBytes last) 1 = d.disposition.message.code ∧
      numberAt (lastBytes last ++ t) 2 1 d.disposition.argument ∧
      optKeyStands (lastBytes last ++ t) 3 d.disposition.key ∧ timeStands (lastBytes last ++ t) 14 d.time) ∧
    (last = none → zeroAt (lastBytes last ++ t) 0 18) := by
  refine ⟨?_, ?_⟩
  · rintro d rfl
    have behind : lastBytes (some d) ++ t =
        [1, d.disposition.message.code] ++ (beBytes 1 d.disposition.argument ++
          (optKeyBytes d.disposition.key ++ (optTimeBytes d.time ++ t))) := by simp [lastBytes]
    rw [behind]
    refine ⟨rfl, rfl, ?_⟩
    simp (disch := simp) only [numberAt_pass, numberAt_here, optKeyStands_pass, optKeyStands_here, timeStands_pass,
      timeStands_here, List.length_cons, List.length_nil, beBytes_length, optKeyBytes_length, Nat.reduceAdd,
      Nat.reduceSub, and_self]
  · rintro rfl
    exact zeroAt_here 18 t

/-- READ_LANE's data stands behind the status. -/
theorem LaneReadout.standsIn_bytes (r : LaneReadout) {header : List Byte} (length : header.length = 3)
    (spare : List Byte) : r.standsIn (header ++ (r.bytes ++ spare)) := by
  simp (disch := simp [length, lastBytes_length]) only [LaneReadout.standsIn, LaneReadout.bytes, LaneConfig.bytes,
    LaneCounters.bytes, classBytes, List.append_assoc, flagStands, yesNo, numberAt_pass, numberAt_here, byteAt_pass,
    byteAt_before, byteAt_here, byteAt_skip, optKeyStands_pass, timeStands_pass, zeroAt_pass, length, beBytes_length,
    lastBytes_length, List.length_cons, List.length_nil, Nat.reduceAdd, Nat.reduceSub, Nat.zero_add, true_and, and_true]
  refine ⟨?_, last_stands r.last _⟩
  cases r.origin <;> rfl

/-- READ_GATE's fills of the queues and the state of the table, between the ring counters and the home's values. -/
def GateReadout.tableBytes (g : GateReadout) : List Byte :=
  beBytes 1 g.transitFill ++ beBytes 1 g.localFill ++ beBytes 1 g.generalFill ++ [g.tableStatus.code] ++
    beBytes 2 (g.remaining - 1) ++ beBytes 4 g.tableFill

/-- READ_GATE's values of the home and the tracker, before the clock. -/
def GateReadout.claimBytes (g : GateReadout) : List Byte :=
  beBytes 1 g.intakeFill ++ beBytes 1 g.holdCount ++ beBytes 2 g.noticeDrops ++ beBytes 2 g.strayAbandons ++
    beBytes 1 g.trackerEntries ++ beBytes 2 g.logFill ++ beBytes 2 g.lateVerdicts ++ beBytes 2 g.unloggedExits ++
    beBytes 2 g.logDrops

theorem GateReadout.bytes_eq (g : GateReadout) :
    g.bytes = beBytes 1 g.position ++ (beBytes 1 g.size ++
      ([conditionByte g.strapFault g.ringUp g.emergencyLatched g.emergencyInput] ++ (g.ringCounters.bytes ++
        (g.tableBytes ++ (g.claimBytes ++ (optTimeBytes g.clock ++ (g.settings.bytes ++
          (beBytes 1 g.commandFill ++ beBytes 2 g.commandDrops)))))))) := by
  delta GateReadout.bytes
  simp only [GateReadout.tableBytes, GateReadout.claimBytes, List.append_assoc]

@[simp] theorem RingCounters.bytes_length (c : RingCounters) : c.bytes.length = 14 := by simp [RingCounters.bytes]
@[simp] theorem Settings.bytes_length (g : Settings) : g.bytes.length = 4 := by simp [Settings.bytes]
@[simp] theorem GateReadout.tableBytes_length (g : GateReadout) : g.tableBytes.length = 10 := by
  simp [GateReadout.tableBytes]
@[simp] theorem GateReadout.claimBytes_length (g : GateReadout) : g.claimBytes.length = 15 := by
  simp [GateReadout.claimBytes]

theorem GateReadout.bytes_length (g : GateReadout) : g.bytes.length = 53 := by simp [GateReadout.bytes_eq]

/-- READ_GATE's 53 bytes stand behind the status. -/
theorem GateReadout.standsIn_bytes (g : GateReadout) {header : List Byte} (length : header.length = 3)
    (spare : List Byte) : g.standsIn (header ++ (g.bytes ++ spare)) := by
  simp (disch := simp [length]) only [GateReadout.standsIn, GateReadout.bytes_eq, List.append_assoc, numberAt_pass,
    numberAt_here, byteAt_pass, byteAt_before, byteAt_here, timeStands_pass, timeStands_here, settingsStand_pass,
    settingsStand_here, length, beBytes_length, optTimeBytes_length, RingCounters.bytes_length, Settings.bytes_length,
    GateReadout.tableBytes_length, GateReadout.claimBytes_length, List.length_singleton, Nat.reduceSub, true_and,
    and_true]
  refine ⟨bit_conditionByte g.strapFault g.ringUp g.emergencyLatched g.emergencyInput, ?_⟩
  simp (disch := simp) only [RingCounters.bytes, GateReadout.tableBytes, GateReadout.claimBytes, List.append_assoc,
    numberAt_pass, numberAt_here, byteAt_pass, byteAt_before, byteAt_here, beBytes_length, List.length_singleton,
    Nat.reduceSub, and_true]

/-- The data of a reply stands behind the code, the request number and the status. -/
theorem ReplyData.standsIn_bytes (d : ReplyData) {header : List Byte} (length : header.length = 3)
    (spare : List Byte) : d.standsIn (header ++ (d.bytes ++ spare)) := by
  cases d with
  | nothing => trivial
  | put outcome =>
    rw [ReplyData.standsIn, byteAt_pass _ _ _ length.le, length]
    rfl
  | opened remaining =>
    rw [ReplyData.standsIn, numberAt_pass length.le, length]
    exact numberAt_here 2 _ spare
  | loaded first second remaining =>
    simp (disch := simp [length]) only [ReplyData.standsIn, ReplyData.bytes, List.append_assoc, numberAt_pass,
      numberAt_here, byteAt_pass, byteAt_before, byteAt_here, byteAt_skip, length, List.length_cons, List.length_nil,
      Nat.reduceAdd, Nat.reduceSub, Nat.zero_add, true_and, and_true]
    cases second <;> rfl
  | record r =>
    simp (disch := simp [length]) only [ReplyData.standsIn, ReplyData.bytes, List.append_assoc, imageStands_pass,
      imageStands_here, numberAt_pass, numberAt_here, byteAt_pass, byteAt_before, byteAt_here, byteAt_skip,
      timeStands_pass, timeStands_some, flagStands, yesNo, length, Image.bytes_length, timeBytes_length,
      beBytes_length, List.length_singleton, Nat.reduceSub, and_self]
  | lane r => exact r.standsIn_bytes length spare
  | quota q =>
    rw [ReplyData.standsIn, numberAt_pass length.le, length]
    exact numberAt_here 2 q spare
  | zone z =>
    simp (disch := simp [length]) only [ReplyData.standsIn, ReplyData.bytes, List.append_assoc, numberAt_pass,
      numberAt_here, length, beBytes_length, Nat.reduceSub, and_self]
  | clock second =>
    rw [ReplyData.standsIn, timeStands_pass length.le, length]
    exact timeStands_some second spare
  | settings g =>
    rw [ReplyData.standsIn, settingsStand_pass length.le, length]
    exact settingsStand_here g spare
  | gate g => exact g.standsIn_bytes length spare
  | straps position size fault =>
    simp (disch := simp [length]) only [ReplyData.standsIn, ReplyData.bytes, List.append_assoc, numberAt_pass,
      numberAt_here, flagStands_pass, flagStands_here, length, beBytes_length, Nat.reduceSub, and_self]

theorem ReplyData.bytes_length_le (d : ReplyData) : d.bytes.length ≤ 53 := by
  cases d <;>
    simp [ReplyData.bytes, LaneReadout.bytes, LaneConfig.bytes_length, lastBytes_length, LaneCounters.bytes_length,
      GateReadout.bytes_length]

/-- A payload that fits is the bytes of its body with zeros behind them. -/
theorem LocalCell.payload_eq {c : LocalCell} (p : Nat) (fits : c.body.bytes.length ≤ 56) :
    cellPayload (c.wire p) = c.body.bytes ++ List.replicate (56 - c.body.bytes.length) 0 := by
  rw [c.wire_payload, padPayload_eq fits]

theorem byteAt_zeros (n i : Nat) : byteAt (List.replicate n 0) i = 0 := by
  rw [byteAt, List.getD_eq_getElem?_getD, List.getElem?_replicate]
  split <;> rfl

/-- Settles O60: the commands read back, and the fields of the part's own cells, each behind what comes before it. -/
theorem managementCellsReadBack : Obligations.ManagementCellsReadBack := by
  refine ⟨?_, ?_, ?_, by decide, by decide⟩
  · intro source request set c spare fits nonzero
    rw [mgmtOf_cons, commandOf_arguments fits nonzero]
  · intro position destination code request status data body p
    have fits : body.bytes.length ≤ 56 := Nat.add_le_add_right data.bytes_length_le 3
    have payload : p = body.bytes ++ List.replicate (56 - body.bytes.length) 0 := LocalCell.payload_eq position fits
    rw [payload]
    refine ⟨rfl, rfl, rfl, data.standsIn_bytes (header := [code, request, status.code]) rfl _, fits, fun i le => ?_⟩
    rw [byteAt_pass _ _ _ le, byteAt_zeros]
  · intro position destination report second body p kind
    have behind : body.bytes = ([report.code] ++ optTimeBytes second) ++ report.bytes := rfl
    have fits : body.bytes.length ≤ 56 := by
      have := report.bytes_length_le
      simp [behind]
      omega
    have payload : p = body.bytes ++ List.replicate (56 - body.bytes.length) 0 := LocalCell.payload_eq position fits
    refine ⟨?_, ?_, ?_, fits, fun i le => ?_⟩
    · rw [payload]
      cases report <;> rfl
    · rw [payload, behind, List.append_assoc, List.append_assoc, timeStands_pass (by simp)]
      exact timeStands_here second _
    · rw [payload, behind, List.append_assoc]
      exact report.standsIn_bytes (by simp) _
    · rw [payload, byteAt_pass _ _ _ le, byteAt_zeros]

end Sys2Proof.Machine
end

section
/-! SUPPORT. The home (chapter 3): holds that lapse before an entry is taken, and claims decided. -/

namespace Sys2Proof.Machine

section
variable {s : State}

/-! ### Holds that lapse -/

theorem State.lapse_of_recordAt {i : HoldNo} {h : Hold} {r : Record} (record : s.recordAt h.position = some r)
    (c : LapseCause) :
    s.lapse i h c =
      ((s.writeRecord h.position { r with uses := h.snapshot, hold := none }).setHold i none).report
        (.holdLapsed h.tag r.key h.kind c h.snapshot.use) := by
  rw [State.lapse, record, State.endHold_of_recordAt record]

theorem State.lapse_intake (i : HoldNo) (h : Hold) (c : LapseCause) : (s.lapse i h c).hdu.intake = s.hdu.intake := by
  have ended (u : UseFields) : (s.endHold i h u).hdu.intake = s.hdu.intake := by
    simp only [State.endHold, State.releaseRecord]
    split <;> rfl
  simp only [State.lapse]
  split
  · exact ended _
  · exact ended _

theorem State.lapseIfOverdue_of_onTime {i : HoldNo} (onTime : ∀ h, s.holdAt i = some h → s.timebase < h.deadline) :
    s.lapseIfOverdue i = s := by
  unfold State.lapseIfOverdue
  split
  next h live => exact if_neg (Nat.not_le.mpr (onTime h live))
  next => rfl

theorem holdNos_sorted : holdNos.Pairwise (· < ·) := by
  rw [holdNos_eq]
  exact List.pairwise_lt_finRange 64

/-- The entries of the hold table before one of them, and those behind it. -/
theorem holdNos_split (i : HoldNo) : ∃ before behind, holdNos = before ++ i :: behind ∧ ∀ j ∈ before, j < i := by
  obtain ⟨before, behind, split⟩ := List.append_of_mem (mem_holdNos i)
  have sorted : (before ++ i :: behind).Pairwise (· < ·) := split ▸ holdNos_sorted
  exact ⟨before, behind, split, fun j mem => (List.pairwise_append.mp sorted).2.2 j mem i List.mem_cons_self⟩

theorem foldl_of_fixed {α β : Type} {f : α → β → α} {a : α} {l : List β} (fixed : ∀ b ∈ l, f a b = a) :
    l.foldl f a = a := by
  induction l with
  | nil => rfl
  | cons b l ih =>
    rw [List.foldl_cons, fixed b List.mem_cons_self]
    exact ih fun c mem => fixed c (List.mem_cons_of_mem b mem)

/-- The lowest overdue hold lapses first, and the others as they would have without it (R41, R56). -/
theorem State.lapseOverdue_of_first {i : HoldNo} {h : Hold} (live : s.holdAt i = some h)
    (overdue : h.deadline ≤ s.timebase) (first : ∀ j g, j < i → s.holdAt j = some g → s.timebase < g.deadline) :
    s.lapseOverdue = (s.lapse i h .deadline).lapseOverdue := by
  obtain ⟨before, behind, split, below⟩ := holdNos_split i
  have timebase : (s.lapse i h .deadline).timebase = s.timebase := by simp
  have passes {x : State} (onTime : ∀ j ∈ before, x.lapseIfOverdue j = x) :
      x.lapseOverdue = behind.foldl State.lapseIfOverdue (x.lapseIfOverdue i) := by
    rw [State.lapseOverdue, split, List.foldl_append, List.foldl_cons, foldl_of_fixed onTime]
  have freed : (s.lapse i h .deadline).holdAt i = none := by rw [State.holdAt_lapse, if_pos rfl]
  have others {j : HoldNo} (mem : j ∈ before) : (s.lapse i h .deadline).holdAt j = s.holdAt j := by
    rw [State.holdAt_lapse, if_neg (below j mem).ne]
  have lapses : s.lapseIfOverdue i = s.lapse i h .deadline := by
    rw [State.lapseIfOverdue, live]
    exact if_pos overdue
  rw [passes fun j mem => State.lapseIfOverdue_of_onTime fun g => first j g (below j mem), lapses, passes]
  · rw [State.lapseIfOverdue_of_onTime (by simp [freed])]
  · intro j mem
    refine State.lapseIfOverdue_of_onTime fun g held => ?_
    rw [timebase]
    exact first j g (below j mem) ((others mem).symm.trans held)

/-- The row that takes an entry (section 3.1). -/
def Intake.row : Intake → Instr
  | .claim .. => .claim
  | .passed .. => .passed
  | .abandon .. => .abandon
  | .lateUse .. => .lateUse

/-- The row of the entry at the head performs it once the overdue holds have lapsed (R41). -/
theorem exec_entry_congr {u : State} {e : Intake} {rest : List Intake} (live : s.live) (live' : u.live)
    (head : s.hdu.intake = e :: rest) (head' : u.hdu.intake = e :: rest) (same : s.lapseOverdue = u.lapseOverdue) :
    exec e.row s = exec e.row u := by
  cases e <;>
    simp only [Intake.row, exec, execClaim, execPassed, execAbandon, execLateUse, whenRunning_of_live live,
      whenRunning_of_live live', head, head', State.takeEntry, same]

/-- Settles O46: the deadline's own row, and the lapse of the lowest overdue hold taken out of the entry's row. -/
theorem overdueHoldsLapseFirst : Obligations.OverdueHoldsLapseFirst := by
  intro s i live
  refine ⟨fun free => ?_, ?_⟩
  · simp only [exec, execHoldDeadline, whenRunning_of_live live, free]
  · intro h r held record lapsed
    have lapsed_eq : (s.reach h.deadline).lapse i h .deadline = lapsed :=
      State.lapse_of_recordAt (s := s.reach h.deadline) record .deadline
    refine ⟨?_, fun overdue first e rest head => ?_⟩
    · simp only [exec, execHoldDeadline, whenRunning_of_live live, held, lapsed_eq]
    · have now : s.reach h.deadline = s := by
        rw [State.reach, max_eq_left overdue]
      rw [now] at lapsed_eq
      have same : exec e.row s = exec e.row lapsed := by
        refine exec_entry_congr live ?_ head ?_ ?_
        · rw [← lapsed_eq]; simpa [State.live] using live
        · rw [← lapsed_eq, State.lapse_intake, head]
        · rw [← lapsed_eq, State.lapseOverdue_of_first held overdue first]
      cases e <;> exact same

/-! ### Claims decided -/

variable {t : Tag} {k : Key} {kind : Kind} {time zone : Nat} {classes : BitVec 16} {rest : List Intake}

theorem exec_claim (live : s.live) (onTime : s.noneOverdue)
    (head : s.hdu.intake = .claim t k kind time zone classes :: rest) :
    exec .claim s = .next (((s.intakeLeft rest).lapseReused t).decide t k ⟨kind, time, zone, classes⟩) := by
  simp only [exec, execClaim, whenRunning_of_live live, head, State.takeEntry_of_noneOverdue onTime]

/-- A tag on no live hold lapses none (R43). -/
theorem State.lapseReused_of_fresh (fresh : ∀ i h, s.holdAt i = some h → h.tag ≠ t) : s.lapseReused t = s := by
  unfold State.lapseReused
  cases found : s.holdOfTag t with
  | none => rfl
  | some i =>
    obtain ⟨h, live, tagged⟩ := State.holdOfTag_some found
    exact absurd tagged (fresh i h live)

theorem State.lapseReused_of_unique {i : HoldNo} {h : Hold} (live : s.holdAt i = some h) (tagged : h.tag = t)
    (unique : ∀ j g, s.holdAt j = some g → g.tag = t → j = i) : s.lapseReused t = s.lapse i h .tagReuse := by
  simp only [State.lapseReused, State.holdOfTag_of_unique live tagged unique, live]

theorem State.freeHold_of_full (full : ∀ i, s.holdAt i ≠ none) : s.freeHold = none :=
  List.find?_eq_none.mpr fun i _ => by simpa using full i

/-- A list in order is searched up to the first entry that passes. -/
theorem find?_of_first {α : Type} {R : α → α → Prop} {xs : List α} {f : α → Bool} {x : α} (sorted : xs.Pairwise R)
    (mem : x ∈ xs) (passes : f x = true) (first : ∀ y, R y x → f y ≠ true) : xs.find? f = some x := by
  cases found : xs.find? f with
  | none => exact absurd passes (List.find?_eq_none.mp found x mem)
  | some y =>
    obtain rfl | before := find?_first sorted found mem passes
    · rfl
    · exact absurd (List.find?_some found) (first y before)

theorem State.freeHold_of_first {i : HoldNo} (free : s.holdAt i = none) (first : ∀ j, j < i → s.holdAt j ≠ none) :
    s.freeHold = some i :=
  find?_of_first holdNos_sorted (mem_holdNos i) (by rw [free]; rfl) fun j lt => by simpa using first j lt

theorem State.decide_sweeping (a : Asked) (sweeping : s.adt.phase = .sweeping) :
    s.decide t k a = s.deliverVerdict t k .homeBusy 0 := if_pos sweeping

theorem State.find_of_filedAt {p : Nat} {r : Record} (filed : s.filedAt k p r) : s.find k = some (p, r) := by
  simp only [State.find, State.lookup_of_filedAt filed, filed.1, Option.map_some]

theorem State.find_of_notFiled (absent : s.notFiled k) : s.find k = none := by
  simp only [State.find, State.lookup_of_notFiled absent]

theorem State.decide_notFiled (a : Asked) (ready : s.adt.phase = .ready) (absent : s.notFiled k) (free : Bool) :
    s.decide t k a = s.deliverVerdict t k (claimVerdict none a free).1 (claimVerdict none a free).2 := by
  have same : claimVerdict none a s.freeHold.isSome = claimVerdict none a free := by
    unfold claimVerdict
    cases a.kind <;> rfl
  rw [State.decide, if_neg (by simp [ready]), State.find_of_notFiled absent]
  dsimp only [Option.map_none]
  rw [same]
  cases (claimVerdict none a free).1.grants <;> rfl

/-- The verdict on a record without a grant, or without a free entry, changes nothing (R44, R47). -/
theorem State.decide_refused {a : Asked} {p : Nat} {r : Record} {free : Bool} (ready : s.adt.phase = .ready)
    (filed : s.filedAt k p r) (entries : s.freeHold.isSome = free)
    (refused : free = false ∨ (claimVerdict (some r) a free).1.grants = false) :
    s.decide t k a = s.deliverVerdict t k (claimVerdict (some r) a free).1 (claimVerdict (some r) a free).2 := by
  rw [State.decide, if_neg (by simp [ready]), State.find_of_filedAt filed]
  dsimp only [Option.map_some]
  rw [entries]
  obtain rfl | refuses := refused
  · rw [Option.isSome_eq_false_iff, Option.isNone_iff_eq_none] at entries
    rw [entries]
    cases (claimVerdict (some r) a false).1.grants <;> rfl
  · rw [refuses]

theorem State.decide_granted {a : Asked} {p : Nat} {r : Record} {i : HoldNo} (ready : s.adt.phase = .ready)
    (filed : s.filedAt k p r) (entry : s.freeHold = some i) (grants : (claimVerdict (some r) a true).1.grants = true) :
    s.decide t k a =
      (s.createHold i t p a.kind r).deliverVerdict t k (claimVerdict (some r) a true).1
        (claimVerdict (some r) a true).2 := by
  rw [State.decide, if_neg (by simp [ready]), State.find_of_filedAt filed, entry]
  dsimp only [Option.map_some, Option.isSome_some]
  rw [grants]

theorem Verdict.grants_iff (v : Verdict) : v.grants = true ↔ v = .admitFresh ∨ v = .admitReentry ∨ v = .exitOk := by
  cases v <;> simp [Verdict.grants]

/-- Settles O43: the claim is decided on the part without the entry, after a lapse that a claim of the same tag in the
lapsed state no longer makes. -/
theorem claimDecided : Obligations.ClaimDecided := by
  intro s t k kind time zone classes rest live onTime head left answered
  have decided := exec_claim live onTime head
  refine ⟨fun fresh => ?_, fun i h r held tagged unique record => ?_⟩
  · rw [State.lapseReused_of_fresh (s := left) fresh] at decided
    refine ⟨fun sweeping => ?_, fun free ready absent => ?_, ?_⟩
    · exact decided.trans (congrArg _ (State.decide_sweeping (s := left) _ sweeping))
    · exact decided.trans (congrArg _ (State.decide_notFiled (s := left) _ ready absent free))
    · intro p r ready filed v
      have told (x : State) (free : Bool) (position : x.grp.position = s.grp.position) :
          x.deliverVerdict t k (v free).1 (v free).2 = answered x (v free) := by
        rw [State.deliverVerdict, position]
        rfl
      refine ⟨fun full => ?_, fun i free first => ?_⟩
      · have none_free : left.freeHold = none := State.freeHold_of_full full
        rw [← told left false rfl, decided]
        exact congrArg _ (State.decide_refused ready filed (by rw [none_free]; rfl) (.inl rfl))
      · have entry : left.freeHold = some i := State.freeHold_of_first free first
        refine ⟨fun grants => ?_, fun fresh reentry out => ?_⟩
        · have granted := State.decide_granted (s := left) (t := t) ready filed entry
            ((Verdict.grants_iff _).mpr grants)
          exact decided.trans (congrArg _ (granted.trans (told (left.createHold i t p kind r) true rfl)))
        · have refused : (v true).1.grants = false := by
            rw [← Bool.not_eq_true, Verdict.grants_iff]
            exact fun either => either.elim fresh (·.elim reentry out)
          rw [← told left true rfl, decided]
          exact congrArg _ (State.decide_refused ready filed (by rw [entry]; rfl) (.inr refused))
  · have lapsed_eq := State.lapse_of_recordAt (i := i) record .tagReuse
    rw [tagged] at lapsed_eq
    rw [← lapsed_eq, decided, State.lapseReused_of_unique (s := left) held tagged unique]
    have free {j : HoldNo} {g : Hold} (held' : (s.lapse i h .tagReuse).holdAt j = some g) :
        j ≠ i ∧ s.holdAt j = some g := by
      rw [State.holdAt_lapse] at held'
      split at held'
      · cases held'
      next other => exact ⟨other, held'⟩
    have live' : (s.lapse i h .tagReuse).live := by simpa [State.live] using live
    have onTime' : (s.lapse i h .tagReuse).noneOverdue := by
      intro j g held'
      have timebase : (s.lapse i h .tagReuse).timebase = s.timebase := by simp
      rw [timebase]
      exact onTime j g (free held').2
    rw [exec_claim live' onTime' ((State.lapse_intake i h .tagReuse).trans head),
      State.lapseReused_of_fresh (s := (s.lapse i h .tagReuse).intakeLeft rest)]
    · rw [lapsed_eq, State.lapse_of_recordAt (s := left) record, tagged]
      rfl
    · intro j g held' same
      exact (free held').1 (unique j g (free held').2 same)

end

end Sys2Proof.Machine
end

section
/-! SUPPORT. The Claim Tracker (chapter 7): verdicts matched or late, and claims that become unreachable. -/

namespace Sys2Proof.Machine

section
variable {s : State}

/-! ### Verdicts -/

section
variable {v : HandedVerdict} {rest : List HandedVerdict}

theorem fromHome_iff (e : TrackerEntry) (v : HandedVerdict) :
    fromHome e v = true ↔ e.mode = .atHome ∧ v.source = none ∨ e.mode = .remote ∧ v.source = some e.home := by
  unfold fromHome
  cases e.mode <;> simp

/-- A verdict is the answer to a lane's claim (R127). -/
def State.answersClaim (s : State) (v : HandedVerdict) (l : LaneNo) (e : TrackerEntry) : Prop :=
  s.place l = some e ∧ v.tag = ⟨s.grp.position, l, e.seq⟩ ∧ v.key = e.key ∧
    (e.mode = .atHome ∧ v.source = none ∨ e.mode = .remote ∧ v.source = some e.home)

theorem State.matchedClaim_of_answers {l : LaneNo} {e : TrackerEntry} (answers : s.answersClaim v l e) :
    s.matchedClaim v = some l := by
  obtain ⟨place, tag, key, home⟩ := answers
  have lane : v.tag.lane = l.val := by rw [tag]
  have here : (⟨v.tag.lane, lane ▸ l.isLt⟩ : LaneNo) = l := Fin.ext lane
  rw [State.matchedClaim, dif_pos (lane ▸ l.isLt), here, place]
  exact if_pos ⟨by rw [tag], by rw [tag], key.symm, (fromHome_iff e v).mpr home⟩

theorem State.matchedClaim_of_noAnswer (none : ∀ l e, ¬s.answersClaim v l e) : s.matchedClaim v = .none := by
  unfold State.matchedClaim
  split
  next lt =>
    split
    next e place =>
      refine if_neg fun ⟨part, seq, key, home⟩ => none ⟨v.tag.lane, lt⟩ e ⟨place, ?_, key.symm, ?_⟩
      · rw [← part, seq]
      · exact (fromHome_iff e v).mp home
    next => rfl
  next => rfl

theorem exec_verdict_unnamed (live : s.live) (head : s.clt.inbox = v :: rest) (unnamed : v.name = none) :
    exec .verdict s =
      .next { s with clt := { s.clt with inbox := rest, lateVerdicts := bump s.clt.lateVerdicts } } := by
  simp only [exec, execVerdict, whenRunning_of_live live, head, unnamed]

/-- The part once the oldest verdict has been taken. -/
def State.verdictTaken (s : State) (rest : List HandedVerdict) : State :=
  { s with clt := { s.clt with inbox := rest } }

theorem exec_verdict_matched {name : Verdict} {l : LaneNo} (live : s.live) (head : s.clt.inbox = v :: rest)
    (named : v.name = some name) (matched : (s.verdictTaken rest).matchedClaim v = some l) :
    exec .verdict s = .next (((s.verdictTaken rest).setPlace l none).hand l (.result (.verdict name v.argument))) := by
  rw [State.verdictTaken] at matched
  simp only [exec, execVerdict, whenRunning_of_live live, head, named, matched]
  rfl

theorem exec_verdict_late {name : Verdict} (live : s.live) (head : s.clt.inbox = v :: rest)
    (named : v.name = some name) (unmatched : (s.verdictTaken rest).matchedClaim v = none) :
    exec .verdict s = .next ((s.verdictTaken rest).lateVerdict v name) := by
  rw [State.verdictTaken] at unmatched
  simp only [exec, execVerdict, whenRunning_of_live live, head, named, unmatched]
  rfl

end

/-- Settles O47: the verdict that matches, and the late one with and without a grant under this part's tag. -/
theorem verdictAnswersClaim : Obligations.VerdictAnswersClaim := by
  intro s v rest live head left late answers
  refine ⟨exec_verdict_unnamed live head, fun n l e named matched => ?_, ?_⟩
  · exact exec_verdict_matched live head named (State.matchedClaim_of_answers (s := left) matched)
  · intro n named unmatched grant
    have taken := exec_verdict_late live head named (State.matchedClaim_of_noAnswer (s := left) unmatched)
    have granted : (n.grants && v.tag.part == left.grp.position) = true ↔ grant := by
      rw [Bool.and_eq_true, beq_iff_eq, Verdict.grants_iff]
    refine ⟨fun other => taken.trans (congrArg _ ?_), fun grants home => taken.trans (congrArg _ ?_),
      fun a grants home => taken.trans (congrArg _ ?_)⟩
    · exact if_neg (mt granted.mp other)
    · exact (if_pos (granted.mpr grants)).trans (by rw [home]; rfl)
    · exact (if_pos (granted.mpr grants)).trans (by rw [home]; rfl)

/-! ### Unreachable claims -/

section
variable {l : LaneNo} {e : TrackerEntry}

theorem State.unreachable_refuse (policy : (s.lane l).config.policy = .refuse) :
    s.unreachable l e = (s.setPlace l none).handResult l (.unreachable none) := by
  rw [State.unreachable, policy]

theorem State.unreachable_entry (policy : (s.lane l).config.policy = .provisional) (kind : e.kind = .entry) :
    s.unreachable l e = (s.setPlace l none).provisionalEntry l e := by
  rw [State.unreachable, policy, kind]

theorem State.unreachable_exit (policy : (s.lane l).config.policy = .provisional) (kind : e.kind = .exit) :
    s.unreachable l e = (s.setPlace l none).provisionalExit l e := by
  rw [State.unreachable, policy, kind]

/-- An ENTRY claim under PROVISIONAL: refused by the log, or noted in it (R134). -/
theorem State.provisionalEntry_known (known : ∃ x ∈ s.clt.log, x.kind = .entry ∧ x.key = e.key) :
    s.provisionalEntry l e = s.handResult l .provisionalLimit :=
  if_pos ((logHasEntry_iff _ _).mpr known)

theorem State.provisionalEntry_full (new : ¬∃ x ∈ s.clt.log, x.kind = .entry ∧ x.key = e.key)
    (full : 256 ≤ s.clt.log.length) : s.provisionalEntry l e = s.handResult l .logFull :=
  (if_neg (mt (logHasEntry_iff _ _).mp new)).trans (if_pos full)

theorem State.provisionalEntry_noted (new : ¬∃ x ∈ s.clt.log, x.kind = .entry ∧ x.key = e.key)
    (room : s.clt.log.length < 256) : s.provisionalEntry l e = s.logPending l e .entry .provisionalAdmit :=
  (if_neg (mt (logHasEntry_iff _ _).mp new)).trans (if_neg (Nat.not_le.mpr room))

theorem exec_claimTimeout {d : Nat} (live : s.live) (place : s.place l = some e) (deadline : e.deadline = some d) :
    exec (.claimTimeout l) s = .next ((s.reach d).unreachable l e) := by
  simp only [exec, execClaimTimeout, whenRunning_of_live live, place, deadline]

end

/-- Settles O48: the entry removed, and the result by policy, kind and what the log holds. -/
theorem unreachableClaims : Obligations.UnreachableClaims := by
  intro s l live
  refine ⟨fun free => ?_, fun e place => ⟨fun unset => ?_, ?_⟩⟩
  · simp only [exec, execClaimTimeout, whenRunning_of_live live, free]
  · simp only [exec, execClaimTimeout, whenRunning_of_live live, place, unset]
  intro d deadline freed kept noted result known
  have timed := exec_claimTimeout live place deadline
  refine ⟨fun refuse => ?_, fun provisional entry => ?_, fun provisional exit => ?_⟩
  · exact timed.trans (congrArg _ (State.unreachable_refuse (s := s.reach d) refuse))
  · have ended := timed.trans (congrArg _ (State.unreachable_entry (s := s.reach d) provisional entry))
    refine ⟨fun present => ?_, fun new full => ?_, fun new room => ?_⟩
    · exact ended.trans (congrArg _ (State.provisionalEntry_known (s := freed) present))
    · exact ended.trans (congrArg _ (State.provisionalEntry_full (s := freed) new full))
    · exact ended.trans (congrArg _ (State.provisionalEntry_noted (s := freed) new room))
  · have ended := timed.trans (congrArg _ (State.unreachable_exit (s := s.reach d) provisional exit))
    refine ⟨fun room => ?_, fun full => ?_⟩
    · exact ended.trans (congrArg _ (if_pos room))
    · exact ended.trans (congrArg _ (if_neg (Nat.not_lt.mpr full)))

end

end Sys2Proof.Machine
end

section
/-! SUPPORT. The lane bus (chapter 6): which transaction is the next to begin, and for which lane. -/

namespace Sys2Proof.Machine

section
variable {s : State}

/-! ### The lane served next -/

theorem State.deliveryDue_iff (s : State) (l : LaneNo) :
    s.deliveryDue l = true ↔ (s.lane l).config.fitted = true ∧ (s.head l).waiting ≠ none ∧ 0 < (s.head l).room := by
  simp [State.deliveryDue, and_assoc, Option.isSome_iff_ne_none]

theorem laneNos_sorted : laneNos.Pairwise (· < ·) := by
  rw [laneNos_eq]
  exact List.pairwise_lt_finRange 16

theorem State.nextDelivery_of_first {l : LaneNo} (due : s.deliveryDue l = true)
    (first : ∀ m, m < l → s.deliveryDue m ≠ true) : s.nextDelivery = some l :=
  find?_of_first laneNos_sorted (mem_laneNos l) due first

theorem State.nextDelivery_eq_none (none_due : ∀ l, s.deliveryDue l ≠ true) : s.nextDelivery = none :=
  List.find?_eq_none.mpr fun l _ => none_due l

/-- How many turns after its pointer a lane comes in the round robin (R116). -/
def turnsAfter (pointer l : LaneNo) : Nat := (l.val + 15 - pointer.val) % 16

theorem turnsAfter_add (pointer i : LaneNo) : turnsAfter pointer (pointer + 1 + i) = i.val := by
  revert pointer i
  decide

theorem lanesAfter_sorted (pointer : LaneNo) :
    (lanesAfter pointer).Pairwise fun a b => turnsAfter pointer a < turnsAfter pointer b := by
  refine List.pairwise_map.mpr (laneNos_sorted.imp fun lt => ?_)
  rw [turnsAfter_add, turnsAfter_add]
  exact lt

theorem mem_lanesAfter (pointer l : LaneNo) : l ∈ lanesAfter pointer :=
  List.mem_map.mpr ⟨l - (pointer + 1), mem_laneNos _, add_sub_cancel _ _⟩

theorem LaneState.fetches_iff (st : LaneState) : st.fetches = true ↔ st = .idle ∨ st = .closed ∨ st = .released := by
  cases st <;> simp [LaneState.fetches]

/-- A lane stands for a fetch in a priority (R115, R116). -/
def State.standsFor (s : State) (pr : Priority) (l : LaneNo) : Prop :=
  s.candidate l = true ∧ (s.lane l).config.priority = pr

theorem State.choice_of_first {pr : Priority} {pointer l : LaneNo} (stands : s.standsFor pr l)
    (first : ∀ m, s.standsFor pr m → turnsAfter pointer l ≤ turnsAfter pointer m) : s.choice pr pointer = some l := by
  refine find?_of_first (lanesAfter_sorted pointer) (mem_lanesAfter pointer l) ?_ fun m before passes => ?_
  · simpa [State.standsFor] using stands
  · exact absurd (first m (by simpa [State.standsFor] using passes)) (Nat.not_le.mpr before)

theorem State.choice_eq_none {pr : Priority} {pointer : LaneNo} (none_stands : ∀ m, ¬s.standsFor pr m) :
    s.choice pr pointer = none :=
  List.find?_eq_none.mpr fun m _ passes => none_stands m (by simpa [State.standsFor] using passes)

theorem State.arbiter_high {l : LaneNo} (high : s.choice .high s.lbp.highPointer = some l) :
    s.arbiter = some (.high, l) := by
  rw [State.arbiter, high]

theorem State.arbiter_normal {l : LaneNo} (noHigh : ∀ m, ¬s.standsFor .high m)
    (normal : s.choice .normal s.lbp.normalPointer = some l) : s.arbiter = some (.normal, l) := by
  rw [State.arbiter, State.choice_eq_none noHigh, normal]
  rfl

theorem State.arbiter_eq_none (none_stands : ∀ pr m, ¬s.standsFor pr m) : s.arbiter = none := by
  rw [State.arbiter, State.choice_eq_none (none_stands .high), State.choice_eq_none (none_stands .normal)]
  rfl

theorem State.fittedLanes_eq_nil (unfitted : ∀ l, (s.lane l).config.fitted ≠ true) : s.fittedLanes = [] :=
  List.filter_eq_nil_iff.mpr fun l _ => unfitted l

theorem State.nextPoll_unfitted (none_fitted : s.fittedLanes = []) : s.nextPoll = none := by
  rw [State.nextPoll, none_fitted]

theorem State.nextPoll_inRound {l m : LaneNo} {rest : List LaneNo} (fitted : (s.lane m).config.fitted = true)
    (round : s.lbp.round = l :: rest) : s.nextPoll = some (l, rest) := by
  have mem : m ∈ s.fittedLanes := List.mem_filter.mpr ⟨mem_laneNos m, fitted⟩
  rw [State.nextPoll, round]
  cases lanes : s.fittedLanes with
  | nil => rw [lanes] at mem; cases mem
  | cons => rfl

theorem State.nextPoll_newRound {l : LaneNo} {rest : List LaneNo} (round : s.lbp.round = [])
    (lanes : s.fittedLanes = l :: rest) : s.nextPoll = some (l, rest) := by
  rw [State.nextPoll, round, lanes]

/-! ### Transactions that begin -/

section
variable (live : s.live)
include live

theorem exec_begun_busy (busy : s.lbp.underWay ≠ none) :
    exec (.poll .begun) s = .next s ∧ exec (.fetch .begun) s = .next s ∧ exec (.delivery .begun) s = .next s := by
  obtain ⟨x, underWay⟩ := Option.ne_none_iff_exists'.mp busy
  refine ⟨?_, ?_, ?_⟩
  · simp only [exec, execPoll, whenRunning_of_live live, underWay]
  · simp only [exec, execFetch, whenRunning_of_live live, underWay]
  · simp only [exec, execDelivery, whenRunning_of_live live, underWay]

variable (free : s.lbp.underWay = none)
include free

theorem exec_poll_waits (other : s.nextDelivery.isSome = true ∨ s.lbp.afterPoll = true ∧ s.arbiter.isSome = true) :
    exec (.poll .begun) s = .next s := by
  simp only [exec, execPoll, whenRunning_of_live live, free]
  exact congrArg _ (if_pos (by simpa using other))

theorem exec_poll_none (unfitted : s.nextPoll = none) : exec (.poll .begun) s = .next s := by
  simp only [exec, execPoll, whenRunning_of_live live, free, unfitted, ite_self]

theorem exec_poll_begins {l : LaneNo} {rest : List LaneNo} (noDelivery : s.nextDelivery = none)
    (noFetch : s.lbp.afterPoll = false ∨ s.arbiter = none) (next : s.nextPoll = some (l, rest)) :
    exec (.poll .begun) s = .next
      { s with lbp := { s.lbp with round := rest, afterPoll := true, underWay := some (.poll l) } } := by
  simp only [exec, execPoll, whenRunning_of_live live, free, noDelivery, next]
  refine congrArg _ (if_neg ?_)
  obtain before | none := noFetch
  · simp [before]
  · simp [none]

theorem exec_fetch_waits
    (other : s.nextDelivery.isSome = true ∨ s.lbp.afterPoll = false ∨ s.arbiter = none) :
    exec (.fetch .begun) s = .next s := by
  simp only [exec, execFetch, whenRunning_of_live live, free]
  obtain due | before | none := other
  · simp [due]
  · simp [before]
  · simp [none]

theorem exec_fetch_begins {l : LaneNo} {pr : Priority} (noDelivery : s.nextDelivery = none)
    (after : s.lbp.afterPoll = true) (chosen : s.arbiter = some (pr, l)) :
    exec (.fetch .begun) s = .next
      (State.modHead { s with lbp := { s.lbp.point pr l with afterPoll := false, underWay := some (.fetch l) } } l
        fun h => { h with offered := h.offered - 1 }) := by
  simp only [exec, execFetch, whenRunning_of_live live, free, noDelivery, after, chosen]
  rfl

theorem exec_delivery_none (noDelivery : s.nextDelivery = none) : exec (.delivery .begun) s = .next s := by
  simp only [exec, execDelivery, whenRunning_of_live live, free, noDelivery]

theorem exec_delivery_begins {l : LaneNo} {d : Disposition} (next : s.nextDelivery = some l)
    (waiting : (s.head l).waiting = some d) :
    exec (.delivery .begun) s = .next
      (State.modHead { s with lbp := { s.lbp with underWay := some (.delivery l d false) } } l
        fun h => { h with waiting := none, room := h.room - 1 }) := by
  simp only [exec, execDelivery, whenRunning_of_live live, free, next, waiting]

end

/-- Settles O50: R112's order of delivery, fetch and poll, and the lane each begins for. -/
theorem busTransactionsBegin : Obligations.BusTransactionsBegin := by
  intro s live fitted due candidate turns first polls fetches noPoll noFetch noDelivery
  have due_iff (l : LaneNo) : s.deliveryDue l = true ↔ due l := s.deliveryDue_iff l
  have stands_iff (pr : Priority) (l : LaneNo) : s.standsFor pr l ↔ candidate pr l := by
    rw [State.standsFor, candidate_iff, LaneState.fetches_iff]
    simp only [candidate, fitted, and_assoc]
  refine ⟨exec_begun_busy live, fun l d free dueNow lowest waiting => ?_, fun free noneDue => ?_⟩
  · have next : s.nextDelivery = some l :=
      State.nextDelivery_of_first ((due_iff l).mpr dueNow) fun m lt => mt (due_iff m).mp (lowest m lt)
    have some_due : s.nextDelivery.isSome = true := by rw [next]; rfl
    exact ⟨exec_poll_waits live free (.inl some_due), exec_fetch_waits live free (.inl some_due),
      exec_delivery_begins live free next waiting⟩
  · have next : s.nextDelivery = none := State.nextDelivery_eq_none fun l => mt (due_iff l).mp (noneDue l)
    have fetched {pr : Priority} {l : LaneNo} (after : s.lbp.afterPoll = true) (chosen : s.arbiter = some (pr, l)) :
        noPoll ∧ fetches (s.lbp.point pr l) l :=
      ⟨exec_poll_waits live free (.inr ⟨after, by rw [chosen]; rfl⟩), exec_fetch_begins live free next after chosen⟩
    refine ⟨exec_delivery_none live free next, fun quiet => ?_, fun l after high => ?_,
      fun l after noHigh normal => ?_⟩
    · have no_fetch : s.lbp.afterPoll = false ∨ s.arbiter = none :=
        quiet.imp_right fun none_stands => State.arbiter_eq_none fun pr m => mt (stands_iff pr m).mp (none_stands pr m)
      refine ⟨exec_fetch_waits live free (.inr no_fetch), fun unfitted => ?_, fun l rest ⟨m, isFitted⟩ round => ?_,
        fun l rest round lanes => ?_⟩
      · exact exec_poll_none live free (State.nextPoll_unfitted (State.fittedLanes_eq_nil unfitted))
      · exact exec_poll_begins live free next no_fetch (State.nextPoll_inRound isFitted round)
      · refine exec_poll_begins live free next no_fetch (State.nextPoll_newRound round ?_)
        rw [State.fittedLanes, laneNos_eq]
        exact lanes
    · have stands := (stands_iff .high l).mpr high.1
      refine fetched after (State.arbiter_high (State.choice_of_first stands fun m other => ?_))
      exact high.2 m ((stands_iff .high m).mp other)
    · have stands := (stands_iff .normal l).mpr normal.1
      refine fetched after (State.arbiter_normal (fun m => mt (stands_iff .high m).mp (noHigh m))
        (State.choice_of_first stands fun m other => ?_))
      exact normal.2 m ((stands_iff .normal m).mp other)

end

end Sys2Proof.Machine
end

section
/-! SUPPORT. The answers of lane heads (section 6.4): good, empty, garbled and missing. -/

namespace Sys2Proof.Machine

/-! ### The forms of section 11.3 -/

theorem busCheck_iff (bytes : List Byte) : busCheck bytes = true ↔ bytes.foldl (· + ·) 0 = 0 := beq_iff_eq

theorem pollAnswer_good {count room check : Byte} (good : [count, room, check].foldl (· + ·) 0 = 0) :
    pollAnswer [count, room, check] = some (count.toNat, room.toNat) :=
  if_pos ((busCheck_iff _).mpr good)

theorem pollAnswer_none {bytes : List Byte}
    (noAnswer : ∀ count room check, bytes = [count, room, check] → bytes.foldl (· + ·) 0 ≠ 0) :
    pollAnswer bytes = none := by
  unfold pollAnswer
  split
  next count room check => exact if_neg (mt (busCheck_iff _).mp (noAnswer count room check rfl))
  next => rfl

theorem fetchAnswer_presentation {medium length age check : Byte} {payload : List Byte} (ten : payload.length = 10)
    (good : (0x01 :: medium :: length :: payload ++ [age, check]).foldl (· + ·) 0 = 0) :
    fetchAnswer (0x01 :: medium :: length :: payload ++ [age, check]) =
      some (some ⟨medium, length.toNat, payload, age.toNat⟩) := by
  have whole : (0x01 :: medium :: length :: payload ++ [age, check]).length = 15 := by simp [ten]
  rw [fetchAnswer, if_pos ((busCheck_iff _).mpr good), if_pos (by rw [whole]; rfl)]
  have read_length : natAt (0x01 :: medium :: length :: payload ++ [age, check]) 2 1 = length.toNat :=
    natAt_one _ _ (by omega)
  have read_payload : slice (0x01 :: medium :: length :: payload ++ [age, check]) 3 10 = payload :=
    List.take_left' ten
  have read_age : natAt (0x01 :: medium :: length :: payload ++ [age, check]) 13 1 = age.toNat := by
    rw [natAt_one _ _ (by omega)]
    change (byteAt (payload ++ [age, check]) 10).toNat = _
    rw [byteAt_pass _ _ _ ten.le, ten]
    rfl
  rw [read_length, read_payload, read_age]
  rfl

theorem fetchAnswer_empty : fetchAnswer [0x00, 0x00] = some none := by decide

theorem eq_of_two_bytes {bytes : List Byte} {a b : Byte} (two : bytes.length = 2) (head : byteAt bytes 0 = a)
    (sum : bytes.foldl (· + ·) 0 = 0) (check : a + b = 0) : bytes = [a, b] := by
  obtain ⟨x, y, rfl⟩ := List.length_eq_two.mp two
  obtain rfl : x = a := head
  have same : x + y = x + b := by
    rw [check]
    simpa using sum
  rw [add_left_cancel same]

theorem fetchAnswer_none {bytes : List Byte}
    (garbled : bytes.foldl (· + ·) 0 ≠ 0 ∨ bytes ≠ [0x00, 0x00] ∧ (bytes.length ≠ 15 ∨ bytes.getD 0 0 ≠ 0x01)) :
    fetchAnswer bytes = none := by
  by_cases good : busCheck bytes = true
  · have sum := (busCheck_iff bytes).mp good
    obtain ⟨notEmpty, notCell⟩ := garbled.resolve_left (not_not_intro sum)
    rw [fetchAnswer, if_pos good, if_neg, if_neg]
    · intro form
      obtain ⟨head, two⟩ : byteAt bytes 0 = 0x00 ∧ bytes.length = 2 := by simpa using form
      exact notEmpty (eq_of_two_bytes two head sum rfl)
    · intro form
      obtain ⟨head, whole⟩ : byteAt bytes 0 = 0x01 ∧ bytes.length = 15 := by simpa using form
      exact notCell.elim (· whole) (· head)
  · exact if_neg good

theorem isAcknowledgement_iff (bytes : List Byte) : isAcknowledgement bytes = true ↔ bytes = [0x06, 0xFA] := by
  constructor
  · intro form
    obtain ⟨⟨head, two⟩, good⟩ : (byteAt bytes 0 = 0x06 ∧ bytes.length = 2) ∧ busCheck bytes = true := by
      simpa [isAcknowledgement] using form
    exact eq_of_two_bytes two head ((busCheck_iff bytes).mp good) rfl
  · rintro rfl
    decide

/-! ### What an answer does -/

section
variable {s : State} {l : LaneNo}

theorem State.modHead_modHead (f g : Head → Head) :
    (s.modHead l f).modHead l g = s.modHead l fun h => g (f h) := by
  simp only [State.modHead, modAt_modAt]
  rfl

theorem State.missed_eq :
    s.missed l =
      if (s.lane l).config.fitted = false then s
      else if (s.head l).missed < 2 then s.modHead l fun h => { h with offered := 0, room := 0, missed := h.missed + 1 }
      else (s.modHead l fun h => { h with offered := 0, room := 0, missed := 0, linked := false }).hand l .linkLoss := by
  rw [State.missed]
  cases fitted : (s.lane l).config.fitted with
  | false => rfl
  | true =>
    by_cases few : (s.head l).missed < 2
    · rw [if_neg (by simp), if_pos (by omega), if_neg (by simp), if_pos few]
    · rw [if_neg (by simp), if_neg (by omega), if_neg (by simp), if_neg few]

theorem State.polled_fitted (fitted : (s.lane l).config.fitted = true) (count room : Nat) :
    let heard := s.modHead l fun h => { h with offered := min 2 count, room := min 2 room, missed := 0, linked := true }
    s.polled l count room = if (s.head l).linked then heard else heard.hand l .linkRegained := by
  rw [State.polled, fitted, if_neg (by simp)]

theorem State.fetched_presentation (fitted : (s.lane l).config.fitted = true) (p : Presentation) :
    s.fetched l (some (some p)) =
      (s.modHead l fun h => { h with missed := 0, linked := true, inHand := true }).hand l (.presentation p) := by
  rw [State.fetched, fitted, if_neg (by simp)]

theorem State.fetched_empty (fitted : (s.lane l).config.fitted = true) :
    s.fetched l (some none) = s.modHead l fun h => { h with offered := 0, missed := 0 } := by
  rw [State.fetched, fitted, if_neg (by simp)]

theorem State.fetched_garbled (fitted : (s.lane l).config.fitted = true) :
    s.fetched l none = s.modHead l fun h => { h with missed := 0, waiting := some ⟨.rescan, 0, none⟩ } := by
  rw [State.fetched, fitted, if_neg (by simp), State.placeDisposition, State.modHead_modHead]
  rfl

end

/-- Settles O51: each transaction under way closed by a miss, a good answer, an empty one or one of no form. -/
theorem busAnswers : Obligations.BusAnswers := by
  intro s l live h idle missed sum empty acknowledged
  have missed_eq : s.busFree.missed l = missed := State.missed_eq
  refine ⟨fun poll => ⟨?_, fun bytes noAnswer => ?_, ?_⟩, fun fetch =>
    ⟨?_, fun fitted => ⟨?_, ?_, fun bytes garbled => ?_⟩⟩,
    ?_, fun free => ?_⟩
  · simp only [exec, execMiss, whenRunning_of_live live, poll, missed_eq]
  · simp only [exec, execPoll, whenRunning_of_live live, poll, pollAnswer_none noAnswer, missed_eq]
  · intro count room check good fitted heard
    simp only [exec, execPoll, whenRunning_of_live live, poll, pollAnswer_good good]
    exact congrArg _ (State.polled_fitted (s := s.busFree) fitted _ _)
  · simp only [exec, execMiss, whenRunning_of_live live, fetch, missed_eq]
  · intro medium length payload age check ten good
    simp only [exec, execFetch, whenRunning_of_live live, fetch, fetchAnswer_presentation ten good]
    exact congrArg _ (State.fetched_presentation (s := s.busFree) fitted _)
  · simp only [exec, execFetch, whenRunning_of_live live, fetch, empty, fetchAnswer_empty]
    exact congrArg _ (State.fetched_empty (s := s.busFree) fitted)
  · simp only [exec, execFetch, whenRunning_of_live live, fetch, fetchAnswer_none garbled]
    exact congrArg _ (State.fetched_garbled (s := s.busFree) fitted)
  · intro d gone delivery returned
    have undelivered : s.busFree.undelivered l d gone = returned missed := by
      cases gone with
      | true => exact missed_eq
      | false =>
        refine (congrArg (State.modHead · l _) missed_eq).trans (congrArg (State.modHead missed l) (funext fun h => ?_))
        obtain ⟨linked, count, offered, room, inHand, waiting⟩ := h
        cases waiting <;> rfl
    refine ⟨?_, fun bytes other => ?_, fun fitted => ?_⟩
    · simp only [exec, execMiss, whenRunning_of_live live, delivery, undelivered]
    · simp only [exec, execDelivery, whenRunning_of_live live, delivery, undelivered,
        if_neg (mt (isAcknowledgement_iff bytes).mp other)]
    · simp only [exec, execDelivery, whenRunning_of_live live, delivery, fitted, acknowledged,
        if_pos ((isAcknowledgement_iff _).mpr rfl)]
      rfl
  · simp only [exec, execMiss, whenRunning_of_live live, free]

end Sys2Proof.Machine
end

section
/-! SUPPORT. The turnstile lines (chapter 5): what the outputs show of an indication, and the events the inputs and the
timers hand to a lane. -/

namespace Sys2Proof.Machine

section
variable {s : State} {l : LaneNo}

/-! ### Lamps and tones -/

theorem blink_eq (ms : Nat) : blink ms = decide (ms % 500 < 250) := by
  rw [blink, Bool.beq_eq_decide_eq]
  exact decide_eq_decide.mpr (by omega)

theorem squareWave_eq (hertz us : Nat) :
    squareWave hertz us =
      if us * 2 * hertz / 1000000 % 2 = 0 then Config.toneStartsHigh else !Config.toneStartsHigh := by
  unfold squareWave
  by_cases low : us * 2 * hertz / 1000000 % 2 = 0
  · rw [if_pos low, beq_iff_eq.mpr low]
    exact Bool.true_beq _
  · rw [if_neg low, beq_eq_false_iff_ne.mpr low]
    exact Bool.false_beq _

/-- A microsecond within the millisecond the timebase shows belongs to that millisecond. -/
theorem millisecond_of (ms : Nat) {us : Nat} (lt : us < 1000) : (ms * 1000 + us) / 1000 = ms := by omega

theorem State.silent_of (quiet : (s.line l).indication.tone (s.shownFor l) = none) :
    s.toneHz l = none ∧ ∀ us, us < 1000 → s.tonHigh l us = false := by
  refine ⟨quiet, fun us lt => ?_⟩
  rw [State.tonHigh, Indication.tonHigh, millisecond_of _ lt, quiet]

theorem State.sounds_of {hertz : Nat} (tone : (s.line l).indication.tone (s.shownFor l) = some hertz) :
    s.toneHz l = some hertz ∧
      ∀ us, us < 1000 → s.tonHigh l us =
        if (s.shownFor l * 1000 + us) * 2 * hertz / 1000000 % 2 = 0 then Config.toneStartsHigh
        else !Config.toneStartsHigh := by
  refine ⟨tone, fun us lt => ?_⟩
  rw [State.tonHigh, Indication.tonHigh, millisecond_of _ lt, tone]
  exact squareWave_eq _ _

theorem Indication.tone_accept {i : Indication} (accepts : i = .grant ∨ i = .provisional) (ms : Nat) :
    i.tone ms = if ms < 500 then some 2000 else none := by
  obtain rfl | rfl := accepts <;> rfl

theorem Indication.tone_refuse (ms : Nat) :
    Indication.refuse.tone ms =
      if ms < 120 ∨ 240 ≤ ms ∧ ms < 360 ∨ 480 ≤ ms ∧ ms < 600 then some 600 else none :=
  if_congr (by omega) rfl rfl

/-! ### Edges and timers -/

theorem State.modLine_hand (f : Lines → Lines) (e : LaneEvent) :
    (s.modLine l f).hand l e = s.atLane l (fun ln => { ln with events := ln.events ++ [e] }) id f := by
  simp only [State.modLine_eq_atLane, State.hand_eq_atLane, State.atLane_atLane]
  rfl

theorem LaneState.takesCancel_iff (st : LaneState) : st.takesCancel = true ↔ st = .validating ∨ st = .awaitPass := by
  cases st <;> simp [LaneState.takesCancel]

theorem Indication.timed_iff (i : Indication) : i.timed = true ↔ i = .refuse ∨ i = .retry := by
  cases i <;> simp [Indication.timed]

section
variable (live : s.live)
include live

theorem exec_rotationEdge_active (active : (s.line l).sensorActive = true) : exec (.rotationEdge l) s = .next s := by
  simp only [exec, execRotationEdge, whenRunning_of_live live, active, if_true]

theorem exec_rotationEdge_armed (inactive : (s.line l).sensorActive = false) (armed : (s.line l).latch = .armed) :
    exec (.rotationEdge l) s =
      .next (s.atLane l (fun ln => { ln with events := ln.events ++ [.rotation true] }) id
        fun y => { y with sensorActive := true, latch := .captured }) := by
  simp only [exec, execRotationEdge, whenRunning_of_live live, inactive, armed, State.modLine_hand]
  rfl

theorem exec_rotationEdge_unarmed (inactive : (s.line l).sensorActive = false) (unarmed : (s.line l).latch ≠ .armed) :
    exec (.rotationEdge l) s =
      .next (s.atLane l (fun ln => { ln with events := ln.events ++ [.rotation false] }) id
        fun y => { y with sensorActive := true }) := by
  have open_latch : ((s.line l).latch == .armed) = false := beq_eq_false_iff_ne.mpr unarmed
  simp only [exec, execRotationEdge, whenRunning_of_live live, inactive, open_latch, State.modLine_hand]
  rfl

theorem exec_passTimerExpired_stopped (stopped : (s.line l).passTimer = none) :
    exec (.passTimerExpired l) s = .next s := by
  simp only [exec, execPassTimerExpired, whenRunning_of_live live, stopped]

theorem exec_passTimerExpired_running {d : Nat} (running : (s.line l).passTimer = some d) :
    exec (.passTimerExpired l) s =
      .next ((s.reach d).atLane l (fun ln => { ln with events := ln.events ++ [.passExpiry] }) id
        fun y => { y with passTimer := none }) := by
  simp only [exec, execPassTimerExpired, whenRunning_of_live live, running, State.modLine_hand]

theorem exec_cancelPress_pressed (pressed : (s.line l).buttonPressed = true) :
    exec (.cancelPress l) s = .next s := by
  simp only [exec, execCancelPress, whenRunning_of_live live, pressed, if_true]

theorem exec_cancelPress_taken (released : (s.line l).buttonPressed = false)
    (takes : ((s.lane l).state.takesCancel && !(s.line l).cancelSet) = true) :
    exec (.cancelPress l) s =
      .next (s.atLane l (fun ln => { ln with events := ln.events ++ [.cancel] }) id
        fun y => { y with buttonPressed := true, cancelSet := true }) := by
  simp only [exec, execCancelPress, whenRunning_of_live live, released, takes, if_true, State.modLine_eq_atLane,
    State.hand_eq_atLane, State.atLane_atLane]
  rfl

theorem exec_cancelPress_ignored (released : (s.line l).buttonPressed = false)
    (ignores : ((s.lane l).state.takesCancel && !(s.line l).cancelSet) = false) :
    exec (.cancelPress l) s = .next (s.modLine l fun y => { y with buttonPressed := true }) := by
  simp only [exec, execCancelPress, whenRunning_of_live live, released, ignores]
  rfl

theorem exec_emergencyEdge_active (active : s.tlu.inputActive = true) : exec .emergencyEdge s = .next s := by
  simp only [exec, execEmergencyEdge, whenRunning_of_live live, active, if_true]

theorem exec_emergencyEdge_latched (inactive : s.tlu.inputActive = false) (latched : s.tlu.latched = true) :
    exec .emergencyEdge s = .next { s with tlu := { s.tlu with inputActive := true } } := by
  simp only [exec, execEmergencyEdge, whenRunning_of_live live, inactive, latched]
  rfl

theorem exec_emergencyEdge_first (inactive : s.tlu.inputActive = false) (clear : s.tlu.latched = false) :
    exec .emergencyEdge s =
      .next ((State.handAll
        { s with tlu := { s.tlu with inputActive := true, latched := true, setAt := s.timebase } } .emergency).report
        (.emergency .edge)) := by
  simp only [exec, execEmergencyEdge, whenRunning_of_live live, inactive, clear]
  rfl

theorem exec_indicationTimeout_timed (timed : (s.line l).indication.timed = true) :
    exec (.indicationTimeout l) s =
      .next ((s.reach ((s.line l).shownSince + 2000)).indicate l .dark) := by
  simp only [exec, execIndicationTimeout, whenRunning_of_live live, timed, if_true]
  rfl

theorem exec_indicationTimeout_untimed (untimed : (s.line l).indication.timed = false) :
    exec (.indicationTimeout l) s = .next s := by
  simp only [exec, execIndicationTimeout, whenRunning_of_live live, untimed]
  rfl

end

end

/-- Settles O57: R103's table by the indication shown, and each edge and timer by the levels and latches it meets. -/
theorem lineEvents : Obligations.LineEvents := by
  refine ⟨?_, ?_⟩
  · intro s l x ms lit blinking silent sounds accepts
    have blinks : blink ms = blinking := blink_eq ms
    have lamps {i : Indication} (shown : x.indication = i) : lit (i.green ms) (i.red ms) :=
      ⟨congrArg (Indication.green · ms) shown, congrArg (Indication.red · ms) shown⟩
    have quiet {i : Indication} (shown : x.indication = i) (tone : i.tone ms = none) : silent :=
      State.silent_of ((congrArg (Indication.tone · ms) shown).trans tone)
    have tone {i : Indication} {hertz : Nat} (shown : x.indication = i) (tone : i.tone ms = some hertz) :
        sounds hertz := State.sounds_of ((congrArg (Indication.tone · ms) shown).trans tone)
    have accept (i : x.indication = .grant ∨ x.indication = .provisional) : accepts :=
      ⟨fun lt => tone rfl ((Indication.tone_accept i ms).trans (if_pos lt)),
        fun le => quiet rfl ((Indication.tone_accept i ms).trans (if_neg (Nat.not_lt.mpr le)))⟩
    refine ⟨beq_iff_eq, fun shown => ⟨lamps shown, accept (.inl shown)⟩,
      fun shown => ⟨blinks ▸ lamps shown, accept (.inr shown)⟩,
      fun shown => ⟨lamps shown, fun within => ?_, fun between => ?_⟩,
      fun shown => ⟨blinks ▸ lamps shown, quiet shown rfl⟩, fun shown => ⟨blinks ▸ lamps shown, quiet shown rfl⟩,
      fun shown => ⟨lamps shown, quiet shown rfl⟩⟩
    · exact tone shown ((Indication.tone_refuse ms).trans (if_pos within))
    · exact quiet shown ((Indication.tone_refuse ms).trans (if_neg (by omega)))
  · intro s l live x handed at_
    refine ⟨exec_rotationEdge_active live, exec_rotationEdge_armed live, exec_rotationEdge_unarmed live, ?_,
      exec_passTimerExpired_stopped live, fun d => exec_passTimerExpired_running live, exec_cancelPress_pressed live,
      fun released empty state => ?_, fun released ignored => ?_, ?_, exec_emergencyEdge_active live,
      exec_emergencyEdge_latched live, fun inactive clear => ?_, ?_, fun shown => ?_, fun refuse retry => ?_⟩
    · simp only [exec, execSensorLevelInactive, whenRunning_of_live live]
    · refine exec_cancelPress_taken live released ?_
      rw [(LaneState.takesCancel_iff _).mpr state, show (s.line l).cancelSet = false from empty]
      rfl
    · refine exec_cancelPress_ignored live released ?_
      obtain full | ⟨validating, awaiting⟩ := ignored
      · rw [show (s.line l).cancelSet = true from full, Bool.not_true, Bool.and_false]
      · have refuses : ¬(s.lane l).state.takesCancel = true := by
          rw [LaneState.takesCancel_iff]
          exact fun either => either.elim validating awaiting
        rw [Bool.eq_false_iff.mpr refuses, Bool.false_and]
    · simp only [exec, execButtonReleased, whenRunning_of_live live]
    · let latched : State := { s with tlu := { s.tlu with inputActive := true, latched := true, setAt := s.timebase } }
      exact ⟨latched.handAll .emergency, latched.lane_handAll .emergency, rfl,
        exec_emergencyEdge_first live inactive clear⟩
    · simp only [exec, execEmergencyInputInactive, whenRunning_of_live live]
    · exact exec_indicationTimeout_timed live ((Indication.timed_iff _).mpr shown)
    · refine exec_indicationTimeout_untimed live (Bool.eq_false_iff.mpr ?_)
      rw [ne_eq, Indication.timed_iff]
      exact fun either => either.elim refuse retry

end Sys2Proof.Machine
end
